-- ==== Sys2Proof/Word.lean ====
section
/-! DEFINITION. The words of the framer block: a byte, the 16-bit words of the T=1′ side, the 32-bit words of the
CCID side (00_scope.md R12). Every multi-byte field is assembled from bytes in Decode.lean (R13, R54). -/

namespace Sys2Proof

/-- A byte, 8 bits, unsigned (R12). -/
abbrev Byte := BitVec 8

/-- A `u16` (R12): T=1′ lengths, the CRC. -/
abbrev Half := BitVec 16

/-- A `u32` or, read with `BitVec.toInt`, an `s32` (R12): the CCID length, the processor's result. -/
abbrev Word := BitVec 32

end Sys2Proof
end

