-- ==== Sys2Proof/Config.lean ====
section
/-! DEFINITION. What is fixed for one block: the values the spec fixes (R10), the OPEN parameters of R10 as constants
no proof can look into, and the one free choice the spec leaves to nobody (R214). -/

namespace Sys2Proof

/-- The OPEN parameters of 00_scope.md R10. `T_RETRY` is not among them: no rule depends on it (R246; log 15). -/
structure Params where
  /-- `RX_CAP`: reassembly buffer capacity, bytes. -/
  rxCap : Nat
  /-- `MSG_PAYLOAD_CAP`: message buffer payload capacity, bytes. -/
  msgPayloadCap : Nat
  /-- `APDU_CAP`: T=1′ APDU buffer capacity, bytes. -/
  apduCap : Nat
  /-- `USB_MAX_WRITE`: largest chunk one USB write takes, bytes. -/
  usbMaxWrite : Nat
  /-- `NAD_TX`: the node address byte sent in every frame. -/
  nadTx : Byte
  /-- `PCB_RESET`: the reset/ATR control code. -/
  pcbReset : Byte
  /-- `SE_ADDR`: I2C address of the secure element, 7 bits. -/
  seAddr : BitVec 7
  /-- `N_ATTEMPTS`: I2C attempts per phase. -/
  nAttempts : Nat
  /-- `GENERIC_ERR`: the bytes synthesized on transport failure; `GE_LEN` is its length. -/
  genericErr : List Byte
deriving DecidableEq, Repr

/-- The constraints R10 puts on the OPEN parameters. -/
structure Params.Legal (p : Params) : Prop where
  rxCap : 1034 ≤ p.rxCap
  msgPayloadCap : 1024 ≤ p.msgPayloadCap
  apduCap : 4090 ≤ p.apduCap
  usbMaxWrite : 1 ≤ p.usbMaxWrite
  pcbReset_ne_ns0 : p.pcbReset ≠ 0x00
  pcbReset_ne_ns1 : p.pcbReset ≠ 0x40
  nAttempts : 1 ≤ p.nAttempts
  genericErr : p.genericErr.length ≤ p.apduCap

namespace Config

/-! ### Values the spec fixes (R10) -/

/-- `HDR`: CCID header size in bytes. -/
def hdr : Nat := 10
/-- `MAX_MSG`: largest legal CCID `length`. -/
def maxMsg : Nat := 1024
/-- `T1_MAX_OUT`: first rejected `outLength` (R116). -/
def t1MaxOut : Nat := 4089
/-- `T1_HDR`: T=1′ reply header bytes read first. -/
def t1Hdr : Nat := 4
/-- `T1_CRC`: CRC bytes of a T=1′ frame. -/
def t1Crc : Nat := 2
/-- Capacity of `TXF`: the largest frame is 4 + 4088 + 2 bytes (R11). -/
def txfCap : Nat := 4094
/-- `CRC_SEED`. -/
def crcSeed : Half := 0xFFFF
/-- `CRC_POLY`, reflected. -/
def crcPoly : Half := 0x8408
/-- `STATUS_FAILED`. -/
def statusFailed : Byte := 0x40
/-- `ATR_BYTES`: the power-on payload (R175). -/
def atrBytes : List Byte := [0x3B, 0x80, 0x01, 0x81]
/-- `PARAM_PROTO`: `param` of a parameters response. -/
def paramProto : Byte := 0x01
/-- `ERR_TOO_LONG` = −1 as an `s32` (R116). -/
def errTooLong : Word := 0xFFFFFFFF
/-- `ERR_HDR` = −2 as an `s32` (R123). -/
def errHdr : Word := 0xFFFFFFFE
/-- `SEQ_MASK`: the PCB bit that carries the sequence bit (R82; PRESUMED, log 12). -/
def seqMask : Byte := 0x40

/-! ### CCID type bytes (R78, R79; PRESUMED, log 11) -/

def cmdPowerOn : Byte := 0x62
def cmdPowerOff : Byte := 0x63
def cmdGetSlotStatus : Byte := 0x65
def cmdXfrBlock : Byte := 0x6F
def cmdGetParameters : Byte := 0x6C
def cmdResetParameters : Byte := 0x6D
def cmdSetParameters : Byte := 0x61
def rspDataBlock : Byte := 0x80
def rspSlotStatus : Byte := 0x81
def rspParameters : Byte := 0x82

/-! ### OPEN parameters (R10; log 10)

Each constant has no body. An offset or a cut makes the parameter range over every value R10 allows, and over no
other. -/

/-- `RX_CAP − 1034`. -/
opaque rxCapExtra : Nat
/-- `MSG_PAYLOAD_CAP − 1024`. -/
opaque msgPayloadCapExtra : Nat
/-- `APDU_CAP − 4090`. -/
opaque apduCapExtra : Nat
/-- `USB_MAX_WRITE − 1`. -/
opaque usbMaxWriteExtra : Nat
/-- `NAD_TX`. -/
opaque nadTx : Byte
/-- Which of the 254 bytes other than 0x00 and 0x40 is `PCB_RESET`, in rising order. -/
opaque pcbResetIndex : Fin 254
/-- `SE_ADDR`. -/
opaque seAddr : BitVec 7
/-- `N_ATTEMPTS − 1`. -/
opaque nAttemptsExtra : Nat
/-- `GENERIC_ERR` before it is cut to `APDU_CAP` bytes. -/
opaque genericErrBytes : List Byte

/-- `PCB_RESET`: 1..0x3F for an index below 63, 0x41..0xFF from there on. -/
def pcbReset : Byte :=
  if pcbResetIndex.val < 63 then BitVec.ofNat 8 (pcbResetIndex.val + 1)
  else BitVec.ofNat 8 (pcbResetIndex.val + 2)

/-! The sums are irreducible for the elaborator only (it would unfold 1034 successors); the kernel computes them. -/

/-- `RX_CAP`. -/
@[irreducible] def rxCap : Nat := rxCapExtra + 1034
/-- `MSG_PAYLOAD_CAP`. -/
@[irreducible] def msgPayloadCap : Nat := msgPayloadCapExtra + 1024
/-- `APDU_CAP`. -/
@[irreducible] def apduCap : Nat := apduCapExtra + 4090
/-- `USB_MAX_WRITE`. -/
@[irreducible] def usbMaxWrite : Nat := usbMaxWriteExtra + 1
/-- `N_ATTEMPTS`. -/
@[irreducible] def nAttempts : Nat := nAttemptsExtra + 1
/-- `GENERIC_ERR`. -/
def genericErr : List Byte := genericErrBytes.take apduCap

/-- The parameters of the block. -/
def params : Params := { rxCap, msgPayloadCap, apduCap, usbMaxWrite, nadTx, pcbReset, seAddr, nAttempts, genericErr }

/-! ### Free choice -/

/-- Free value (R214; log 3): at the `n`-th choice between the framer and the T=1′ engine that no turn of the
schedule settles, whether the engine moves. -/
opaque engineMovesFirst : Nat → Bool

end Config

end Sys2Proof
end

