-- ==== Sys2Proof/Syntax.lean ====
section
/-! DEFINITION. The operations of the block as data: one constructor per row of spec/opcode_table.json (R2).
A constructor carries the fields the table gives its row ("source_fields"). Three groups of fields stand elsewhere in
the machine, not in the constructor: a command's `length` is the number of its payload bytes (R71), a frame's DATA
stands in `APDU` and its CRC is computed (R75, R114), and a row without fields reads the engine's registers. -/

namespace Sys2Proof

/-- The fields of a CCID command message after its `type` byte (R70, R71). `length` is `payload.length`. -/
structure CcidCommand where
  slot : Byte
  seq : Byte
  b7 : Byte
  b8 : Byte
  b9 : Byte
  payload : List Byte
deriving DecidableEq, Repr

/-- The fields of a CCID response header after its `type` byte (R71, R72). `slot` and `seq` are the bytes the
command left at `MSG[5]` and `MSG[6]` (R187): the header writer does not write them. -/
structure CcidResponse where
  len : Word
  slot : Byte
  seq : Byte
  status : Byte
  error : Byte
  param : Byte
deriving DecidableEq, Repr

/-- The operations of the block. -/
inductive Instr where
  /-- R174, `type` 0x62. -/
  | powerOn (m : CcidCommand)
  /-- R176, `type` 0x63. -/
  | powerOff (m : CcidCommand)
  /-- R177, `type` 0x65. -/
  | getSlotStatus (m : CcidCommand)
  /-- R178, `type` 0x6F. -/
  | xfrBlock (m : CcidCommand)
  /-- R181, `type` 0x6C. -/
  | getParameters (m : CcidCommand)
  /-- R182, `type` 0x6D. -/
  | resetParameters (m : CcidCommand)
  /-- R183, `type` 0x61. -/
  | setParameters (m : CcidCommand)
  /-- R184, every other `type` byte. -/
  | unknown (type : Byte) (m : CcidCommand)
  /-- R172 with `type` 0x80. -/
  | rspDataBlock (r : CcidResponse)
  /-- R172 with `type` 0x81. -/
  | rspSlotStatus (r : CcidResponse)
  /-- R172 with `type` 0x82. -/
  | rspParameters (r : CcidResponse)
  /-- R140 with SEQ = 0: PCB 0x00. -/
  | iBlockNs0 (outLength expectedReplyLength : Half)
  /-- R140 with SEQ = 1: PCB 0x40. -/
  | iBlockNs1 (outLength expectedReplyLength : Half)
  /-- R113: PCB = PCB_RESET. -/
  | ctrlReset (outLength expectedReplyLength : Half)
  /-- R112: any other PCB. -/
  | anyPcb (pcb : Byte) (outLength expectedReplyLength : Half)
  /-- R112. -/
  | t1Transact (pcb : Byte) (outLength expectedReplyLength : Half)
  /-- R140. -/
  | t1TransactApdu (inLength expectedReplyLength : Half)
  /-- R102. -/
  | crc16 (data : List Byte) (seed : Half)
  /-- R103. -/
  | frameCrc (framePrefix : List Byte)
  /-- R151, FSTATE = AWAIT. -/
  | reassemble
  /-- R171, FSTATE = BUILD. -/
  | dispatch
  /-- R179, FSTATE = PROCESS, `rv ≥ 0`. -/
  | xfrBlockAnswerOk (rv : Word)
  /-- R180, FSTATE = PROCESS, `rv < 0`. -/
  | xfrBlockAnswerFail (rv : Word)
  /-- R190, FSTATE = FLUSH, TX_INFLIGHT = 0. -/
  | flushChunk
  /-- R117, T1STATE = WRITE. -/
  | t1WriteAttempt
  /-- R120, T1STATE = RDHDR. -/
  | t1RdhdrAttempt
  /-- R124, T1STATE = RDBODY. -/
  | t1RdbodyAttempt
  /-- R213. -/
  | txComplete
deriving DecidableEq, Repr

end Sys2Proof
end

