-- ==== Sys2Proof/WellFormed.lean ====
section
/-! DEFINITION. When an operation's fields are ones its row of the table admits. -/

namespace Sys2Proof

/-- Is `t` one of the seven command codes of R78? -/
def isCommandType (t : Byte) : Bool :=
  t == Config.cmdPowerOn || t == Config.cmdPowerOff || t == Config.cmdGetSlotStatus || t == Config.cmdXfrBlock ||
  t == Config.cmdGetParameters || t == Config.cmdResetParameters || t == Config.cmdSetParameters

/-- A message's payload is at most `MAX_MSG` bytes (R73). -/
def CcidCommand.wf (m : CcidCommand) : Bool := m.payload.length ≤ Config.maxMsg

/-- A response's payload fits the message buffer (R25). -/
def CcidResponse.wf (p : Params) (r : CcidResponse) : Bool := r.len.toNat ≤ p.msgPayloadCap

/-- Well-formedness of an operation, for the parameters `p`. -/
def Instr.wf (p : Params) : Instr → Bool
  | .powerOn m => m.wf
  | .powerOff m => m.wf
  | .getSlotStatus m => m.wf
  | .xfrBlock m => m.wf
  | .getParameters m => m.wf
  | .resetParameters m => m.wf
  | .setParameters m => m.wf
  | .unknown t m => !isCommandType t && m.wf
  | .rspDataBlock r => r.wf p
  | .rspSlotStatus r => r.wf p
  | .rspParameters r => r.wf p
  | .iBlockNs0 _ _ => true
  | .iBlockNs1 _ _ => true
  | .ctrlReset _ _ => true
  | .anyPcb pcb _ _ => pcb != 0x00 && pcb != Config.seqMask && pcb != p.pcbReset
  | .t1Transact _ _ _ => true
  | .t1TransactApdu _ _ => true
  | .crc16 _ _ => true
  | .frameCrc f => decide (4 ≤ f.length) && decide (f.length ≤ 4092)
  | .reassemble => true
  | .dispatch => true
  | .xfrBlockAnswerOk rv => decide (0 ≤ rv.toInt)
  | .xfrBlockAnswerFail rv => decide (rv.toInt < 0)
  | .flushChunk => true
  | .t1WriteAttempt => true
  | .t1RdhdrAttempt => true
  | .t1RdbodyAttempt => true
  | .txComplete => true

end Sys2Proof
end

