-- ==== Sys2Proof/Decode.lean ====
section
/-! DEFINITION. From bytes to operations and back (30_encoding.md). The block's encoded operations are CCID messages
(R70 to R74), response headers (R71, R72) and the PCB byte of a T=1′ request (R82, R83); the other rows of the table
have no bits ("selected by port request or by engine state, not by bits"). -/

namespace Sys2Proof

/-! ### Byte order (R13) -/

/-- `le32` of R13: four bytes, least significant first. -/
def le32 (b0 b1 b2 b3 : Byte) : Word := b3 ++ b2 ++ b1 ++ b0

/-- `le32bytes` of R13. -/
def le32bytes (v : Word) : List Byte :=
  [v.extractLsb' 0 8, v.extractLsb' 8 8, v.extractLsb' 16 8, v.extractLsb' 24 8]

/-- `be16` of R13: high byte first. -/
def be16 (hi lo : Byte) : Half := hi ++ lo

/-- The high byte of a `u16`, `v[15:8]`. -/
def hiByte (v : Half) : Byte := v.extractLsb' 8 8

/-- The low byte of a `u16`, `v[7:0]`. -/
def loByte (v : Half) : Byte := v.extractLsb' 0 8

/-- `be16bytes` of R13. -/
def be16bytes (v : Half) : List Byte := [hiByte v, loByte v]

/-! ### The command a type byte selects (R78, R80) -/

/-- The eight rows of the dispatch table (R173). -/
inductive CommandKind where
  | powerOn | powerOff | getSlotStatus | xfrBlock | getParameters | resetParameters | setParameters | unknown
deriving DecidableEq, Repr

/-- Selection by the whole type byte, every byte that is no command code being UNKNOWN (R80, R171). -/
def commandKind (t : Byte) : CommandKind :=
  if t = Config.cmdPowerOn then .powerOn
  else if t = Config.cmdPowerOff then .powerOff
  else if t = Config.cmdGetSlotStatus then .getSlotStatus
  else if t = Config.cmdXfrBlock then .xfrBlock
  else if t = Config.cmdGetParameters then .getParameters
  else if t = Config.cmdResetParameters then .resetParameters
  else if t = Config.cmdSetParameters then .setParameters
  else .unknown

/-- The operation of a type byte and a message's other fields. -/
def commandOf (t : Byte) (m : CcidCommand) : Instr :=
  match commandKind t with
  | .powerOn => .powerOn m
  | .powerOff => .powerOff m
  | .getSlotStatus => .getSlotStatus m
  | .xfrBlock => .xfrBlock m
  | .getParameters => .getParameters m
  | .resetParameters => .resetParameters m
  | .setParameters => .setParameters m
  | .unknown => .unknown t m

/-! ### Decoding -/

/-- Why bytes are no operation. -/
inductive Reject where
  /-- Fewer than the 10 header bytes (R70). -/
  | shortHeader
  /-- The length field is above `MAX_MSG` (R73). -/
  | lengthTooLong
  /-- Fewer payload bytes than the length field declares (R74). -/
  | truncated
  /-- Bytes beyond the message boundary (R74). -/
  | trailing
  /-- The first byte is no response code of R79. -/
  | notResponse
deriving DecidableEq, Repr

/-- Reads one CCID command message from the front of `bs` and returns the bytes after its boundary (R70, R73, R74,
R80). Every type byte is some command. -/
def decodeMessage (bs : List Byte) : Except Reject (Instr × List Byte) :=
  match bs with
  | t :: l0 :: l1 :: l2 :: l3 :: slot :: seq :: b7 :: b8 :: b9 :: rest =>
    if (le32 l0 l1 l2 l3).toNat > Config.maxMsg then .error .lengthTooLong
    else if rest.length < (le32 l0 l1 l2 l3).toNat then .error .truncated
    else .ok (commandOf t ⟨slot, seq, b7, b8, b9, rest.take (le32 l0 l1 l2 l3).toNat⟩,
              rest.drop (le32 l0 l1 l2 l3).toNat)
  | _ => .error .shortHeader

/-- Reads the 10-byte header of a CCID response (R71, R72, R79). -/
def decodeResponse (bs : List Byte) : Except Reject Instr :=
  match bs with
  | [t, l0, l1, l2, l3, slot, seq, status, error, param] =>
    if t = Config.rspDataBlock then .ok (.rspDataBlock ⟨le32 l0 l1 l2 l3, slot, seq, status, error, param⟩)
    else if t = Config.rspSlotStatus then .ok (.rspSlotStatus ⟨le32 l0 l1 l2 l3, slot, seq, status, error, param⟩)
    else if t = Config.rspParameters then .ok (.rspParameters ⟨le32 l0 l1 l2 l3, slot, seq, status, error, param⟩)
    else .error .notResponse
  | _ :: _ :: _ :: _ :: _ :: _ :: _ :: _ :: _ :: _ :: _ => .error .trailing
  | _ => .error .shortHeader

/-- The row of a PCB byte (R82, R83): the two I-blocks, the reset/ATR control code, any other. -/
def decodePcb (p : Params) (pcb : Byte) (outLength expectedReplyLength : Half) : Instr :=
  if pcb = 0x00 then .iBlockNs0 outLength expectedReplyLength
  else if pcb = Config.seqMask then .iBlockNs1 outLength expectedReplyLength
  else if pcb = p.pcbReset then .ctrlReset outLength expectedReplyLength
  else .anyPcb pcb outLength expectedReplyLength

/-- An encoded operation: what the table's spaces with bits hold. -/
inductive Coded where
  /-- A whole CCID command message (space ccid_command). -/
  | message (bs : List Byte)
  /-- The header of a CCID response (space ccid_response). -/
  | response (bs : List Byte)
  /-- The PCB byte of a frame to send, with the two lengths that travel beside it (space t1_tx_pcb; R64; log 18). -/
  | frame (pcb : Byte) (outLength expectedReplyLength : Half)
deriving DecidableEq, Repr

/-- Decoding, total: an operation or the reason there is none. -/
def decode (p : Params) : Coded → Except Reject Instr
  | .message bs =>
    match decodeMessage bs with
    | .ok (i, []) => .ok i
    | .ok (_, _ :: _) => .error .trailing
    | .error r => .error r
  | .response bs => decodeResponse bs
  | .frame pcb outLength expectedReplyLength => .ok (decodePcb p pcb outLength expectedReplyLength)

/-! ### Encoding -/

/-- A command message: type, length (little-endian), slot, seq, b7, b8, b9, payload (R70, R71). -/
def encodeMessage (t : Byte) (m : CcidCommand) : List Byte :=
  t :: (le32bytes (BitVec.ofNat 32 m.payload.length) ++ m.slot :: m.seq :: m.b7 :: m.b8 :: m.b9 :: m.payload)

/-- A response header: type, length (little-endian), slot, seq, status, error, param (R71, R72). -/
def encodeResponse (t : Byte) (r : CcidResponse) : List Byte :=
  t :: (le32bytes r.len ++ [r.slot, r.seq, r.status, r.error, r.param])

/-- The encoding of an operation, none for the rows the table gives no bits. -/
def encode (p : Params) : Instr → Option Coded
  | .powerOn m => some (.message (encodeMessage Config.cmdPowerOn m))
  | .powerOff m => some (.message (encodeMessage Config.cmdPowerOff m))
  | .getSlotStatus m => some (.message (encodeMessage Config.cmdGetSlotStatus m))
  | .xfrBlock m => some (.message (encodeMessage Config.cmdXfrBlock m))
  | .getParameters m => some (.message (encodeMessage Config.cmdGetParameters m))
  | .resetParameters m => some (.message (encodeMessage Config.cmdResetParameters m))
  | .setParameters m => some (.message (encodeMessage Config.cmdSetParameters m))
  | .unknown t m => some (.message (encodeMessage t m))
  | .rspDataBlock r => some (.response (encodeResponse Config.rspDataBlock r))
  | .rspSlotStatus r => some (.response (encodeResponse Config.rspSlotStatus r))
  | .rspParameters r => some (.response (encodeResponse Config.rspParameters r))
  | .iBlockNs0 o e => some (.frame 0x00 o e)
  | .iBlockNs1 o e => some (.frame Config.seqMask o e)
  | .ctrlReset o e => some (.frame p.pcbReset o e)
  | .anyPcb pcb o e => some (.frame pcb o e)
  | .t1Transact _ _ _ => none
  | .t1TransactApdu _ _ => none
  | .crc16 _ _ => none
  | .frameCrc _ => none
  | .reassemble => none
  | .dispatch => none
  | .xfrBlockAnswerOk _ => none
  | .xfrBlockAnswerFail _ => none
  | .flushChunk => none
  | .t1WriteAttempt => none
  | .t1RdhdrAttempt => none
  | .t1RdbodyAttempt => none
  | .txComplete => none

/-! ### The table's words -/

/-- Byte `k` of the first `nbits` bits of `w`, bit 0 being the least significant bit of byte 0. -/
def tableByte (nbits w k : Nat) : Byte := BitVec.ofNat 8 (w % 2 ^ nbits / 256 ^ k)

/-- Bytes `0..n−1` of a table word. -/
def tableBytes (nbits w n : Nat) : List Byte := (List.range n).map (tableByte nbits w)

/-- The CCID message a table word stands for: its 10 header bytes and as many payload bytes as its length field
declares, up to `MAX_MSG`. -/
def tableMessage (nbits w : Nat) : List Byte :=
  tableBytes nbits w (Config.hdr + min Config.maxMsg
    (le32 (tableByte nbits w 1) (tableByte nbits w 2) (tableByte nbits w 3) (tableByte nbits w 4)).toNat)

/-- The operation of a table word. The table's rows lie in three spaces with bits, and a word does not name its space
(log 16): a response code of R79 is read in space ccid_response, a word of at most 8 bits that is an I-block PCB in
space t1_tx_pcb, and every other word is a CCID command message (so UNKNOWN where no command code matches).
`decodeMessage` itself reads every one of these bytes as UNKNOWN when it is the type of a command (R80). -/
def decodeTableWord (nbits w : Nat) : Option Instr :=
  if tableByte nbits w 0 = Config.rspDataBlock ∨ tableByte nbits w 0 = Config.rspSlotStatus ∨
      tableByte nbits w 0 = Config.rspParameters then
    (decodeResponse (tableBytes nbits w Config.hdr)).toOption
  else if nbits = 8 ∧ (tableByte nbits w 0 = 0x00 ∨ tableByte nbits w 0 = Config.seqMask) then
    some (if tableByte nbits w 0 = 0x00 then .iBlockNs0 0 0 else .iBlockNs1 0 0)
  else
    match decodeMessage (tableMessage nbits w) with
    | .ok (i, []) => some i
    | .ok (_, _ :: _) => none
    | .error _ => none

end Sys2Proof
end

