-- ==== Sys2Proof/Machine/State.lean ====
section
/-! DEFINITION. The state of the block (10_state.md): its registers and buffers, the model's fault record (R42), and the
model's own fields: what the outside will answer and who moves next (`usbRx` … `sched`), and the record of what the
block did at its ports (`log`). Plain data throughout. -/

namespace Sys2Proof.Machine

/-- R21: the dispatcher state, the block's analogue of a program counter. -/
inductive FState where
  | await | build | process | flush
deriving DecidableEq, Repr

/-- R30: the T=1′ engine state. -/
inductive T1State where
  | idle | write | rdhdr | rdbody
deriving DecidableEq, Repr

/-- The four byte buffers, each its own address space (R50). -/
inductive BufId where
  | rxb | msg | apdu | txf
deriving DecidableEq, Repr

/-- The ports whose answers R206 checks. -/
inductive Port where
  | usbRx | usbTx | process | i2c
deriving DecidableEq, Repr

/-- The model faults of R204. Raising one writes it to the state's `fault` (R42); the next `step` then answers it.
All are safe: the model stops where an outside agent broke its contract or the spec gives no meaning. -/
inductive Fault where
  /-- F1 (R205), raised by the processor's answer `rv > MSG_PAYLOAD_CAP`. Safe. -/
  | procOverrun (rv : Word)
  /-- F2 (R206), raised by the step that receives an answer outside its port's range, by a TX-complete event while
  `TX_INFLIGHT = 0`, by a `Process` answer while `FSTATE ≠ PROCESS`, and (log 8) by a processor write while
  `FSTATE ≠ PROCESS`. Safe. -/
  | portContract (port : Port)
  /-- F3 (R207), raised by a T=1′ request while `T1_BUSY = 1`. Safe. -/
  | t1Overlap
  /-- F4 (R208), raised by an access outside a buffer's capacity. Safe. -/
  | bufferBounds (b : BufId) (a n : Nat)
  /-- F5 (R209), raised by a caller's write of `APDU` while `T1_BUSY = 1`. Safe. -/
  | t1CallerWrite
  /-- F4 by analogy (R230), raised by reading a byte no rule has written since reset. Safe. -/
  | unwritten (b : BufId) (a n : Nat)
deriving DecidableEq, Repr

/-- Why a step has no meaning. -/
inductive Refusal where
  /-- Reserved for an arm of `exec` that has no meaning; no arm answers it. Safe. -/
  | notModelled (mnemonic : String)
  /-- Raised by `step` for a requested operation whose fields its row does not admit (`Instr.wf`): it is no
  operation of the table. Safe. -/
  | illFormed
deriving DecidableEq, Repr

/-- R35, R121: the last reply header. -/
structure RxHdr where
  nad : Byte
  pcb : Byte
  lenHi : Byte
  lenLo : Byte
deriving DecidableEq, Repr

/-- What the block did at its ports: a request with the answer it received, or an answer it gave. -/
inductive PortAct where
  /-- `UsbRead(max)` answered by `s` (R60). -/
  | usbRead (max : Nat) (s : List Byte)
  /-- `UsbWrite(s)` answered by `accepted` (R61). -/
  | usbWrite (s : List Byte) (accepted : Nat)
  /-- `Process(len)` issued (R62). -/
  | process (len : Word)
  /-- `I2cWrite(addr, s)` answered by `status` (R63). -/
  | i2cWrite (addr : BitVec 7) (s : List Byte) (status : Int)
  /-- `I2cRead(addr, n)` answered by `s` (R63). -/
  | i2cRead (addr : BitVec 7) (n : Nat) (s : List Byte)
  /-- The T=1′ port request answered with `v` (R128). -/
  | t1Answer (v : Word)
  /-- A `CRC16` request answered with `v` (R64, R102). -/
  | crcAnswer (v : Half)
  /-- A `FRAME_CRC` operation's two bytes (R103; log 23). -/
  | frameCrcAnswer (s : List Byte)
  /-- `Delay(T_RETRY)` (R14, R118, R246). -/
  | delay
deriving DecidableEq, Repr

/-- Who moves next (R211, R214). -/
inductive Turn where
  /-- The framer's step in its present `FSTATE`. -/
  | framer
  /-- The T=1′ engine's step in its present `T1STATE`. -/
  | engine
  /-- An operation is asked for: a T=1′ port request, a `CRC16` request, the processor's answer, the TX-complete
  event; any other row, alone, where it may run (log 4). -/
  | request (i : Instr)
  /-- The APDU processor writes `bs` at `MSG[10 + off ..]` (R62). -/
  | processorWrite (off : Nat) (bs : List Byte)
  /-- The T=1′ caller writes `bs` at `APDU[off ..]` (R64). -/
  | callerWrite (off : Nat) (bs : List Byte)
deriving DecidableEq, Repr

/-- A byte buffer: (address, byte) pairs, addresses strictly rising (`Memory.wf`). An unlisted address holds no
value (R230). -/
abbrev Memory := List Host.Cell

/-- The canonical form of a buffer. -/
abbrev Memory.wf (m : Memory) : Prop := m.Pairwise (fun x y => x.1 < y.1)

structure State where
  /-- `FSTATE` (R21). -/
  fstate : FState
  /-- `RXB` (R22). -/
  rxb : Memory
  /-- `FILL` (R23). -/
  fill : Nat
  /-- `MSG` (R24). -/
  msg : Memory
  /-- `RSP_LEN` (R25). -/
  rspLen : Nat
  /-- `FOFF` (R26). -/
  foff : Nat
  /-- `TX_INFLIGHT` (R27). -/
  txInflight : Bool
  /-- `FRAMING_ERR` (R28). -/
  framingErr : Bool
  /-- `SEQ` (R29). -/
  seq : Bool
  /-- `T1STATE` (R30). -/
  t1state : T1State
  /-- `ATTEMPT` (R31). -/
  attempt : Nat
  /-- `T1_PCB` (R32). -/
  t1pcb : Byte
  /-- `T1_OUTLEN` (R32). -/
  t1outlen : Half
  /-- `T1_EXPLEN` (R32). -/
  t1explen : Half
  /-- `TXF` (R33). -/
  txf : Memory
  /-- `TXF_LEN` (R33). -/
  txfLen : Half
  /-- `APDU` (R34). -/
  apdu : Memory
  /-- `RX_HDR` (R35). -/
  rxHdr : RxHdr
  /-- `RX_DECL` (R35). -/
  rxDecl : Half
  /-- `T1_RESULT`, an `s32` (R36). -/
  t1result : Word
  /-- `T1_BUSY` (R37). -/
  t1busy : Bool
  /-- `FAULT` (R42). -/
  fault : Option Fault
  /-- The model's own: the turns settled from outside, oldest first (R214; log 3). -/
  sched : List Turn
  /-- The model's own: pending `UsbRead` answers, oldest first; none pending: the request holds (R60; log 2). -/
  usbRx : List (List Byte)
  /-- The model's own: pending `UsbWrite` answers (R61; log 2). -/
  usbTx : List Nat
  /-- The model's own: pending `I2cWrite` statuses (R63; log 2). -/
  i2cWr : List Int
  /-- The model's own: pending `I2cRead` answers (R63; log 2). -/
  i2cRd : List (List Byte)
  /-- The model's own: what the block did at its ports, oldest first (log 9). -/
  log : List PortAct
  /-- The model's own: how many free choices were drawn (`Config.engineMovesFirst`; log 3). -/
  choices : Nat
deriving DecidableEq, Repr

/-- The state after reset (R230). The model's own fields start empty and at 0 (DESIGN CHOICE, log 14). -/
def State.reset : State where
  fstate := .await
  rxb := []
  fill := 0
  msg := []
  rspLen := 0
  foff := 0
  txInflight := false
  framingErr := false
  seq := false
  t1state := .idle
  attempt := 0
  t1pcb := 0
  t1outlen := 0
  t1explen := 0
  txf := []
  txfLen := 0
  apdu := []
  rxHdr := ⟨0, 0, 0, 0⟩
  rxDecl := 0
  t1result := 0
  t1busy := false
  fault := none
  sched := []
  usbRx := []
  usbTx := []
  i2cWr := []
  i2cRd := []
  log := []
  choices := 0

end Sys2Proof.Machine
end

