-- ==== Sys2Proof/Machine/Ops.lean ====
section
/-! DEFINITION. The named operations over buffers and registers (R14), raising a fault (R204), and the small parts every
step shares. A step's effect is a value of `Except Fault State`: the state it ends in, or the fault it raises before
it writes anything (R206). -/

namespace Sys2Proof.Machine

/-! ### One buffer -/

/-- The byte at address `a`, none where the buffer holds no value. -/
def Memory.read : Memory → Nat → Option Byte
  | [], _ => none
  | (k, v) :: m, a => if k = a then some v else Memory.read m a

/-- The buffer with the byte `v` at address `a`, kept in rising order. -/
def Memory.write : Memory → Nat → Byte → Memory
  | [], a, v => [(a, v)]
  | (k, w) :: m, a, v =>
    if a < k then (a, v) :: (k, w) :: m
    else if a = k then (a, v) :: m
    else (k, w) :: Memory.write m a v

/-- The `n` bytes from address `a` on, none if one of them holds no value. -/
def Memory.readN (m : Memory) : Nat → Nat → Option (List Byte)
  | _, 0 => some []
  | a, n + 1 =>
    match Memory.read m a, Memory.readN m (a + 1) n with
    | some b, some bs => some (b :: bs)
    | _, _ => none

/-- The buffer with `bs` from address `a` on. -/
def Memory.writeN : Memory → Nat → List Byte → Memory
  | m, _, [] => m
  | m, a, b :: bs => Memory.writeN (Memory.write m a b) (a + 1) bs

/-! ### The block's buffers (R14, R50) -/

/-- A buffer's capacity (R22, R24, R33, R34). -/
def capacity (p : Params) : BufId → Nat
  | .rxb => p.rxCap
  | .msg => Config.hdr + p.msgPayloadCap
  | .apdu => p.apduCap
  | .txf => Config.txfCap

/-- A buffer's contents. -/
def State.buf (s : State) : BufId → Memory
  | .rxb => s.rxb
  | .msg => s.msg
  | .apdu => s.apdu
  | .txf => s.txf

/-- The state with other contents of one buffer. -/
def State.setBuf (s : State) (b : BufId) (m : Memory) : State :=
  match b with
  | .rxb => { s with rxb := m }
  | .msg => { s with msg := m }
  | .apdu => { s with apdu := m }
  | .txf => { s with txf := m }

/-- `MemRead(S, a, n)` (R14): outside the capacity `BufferBounds`, at an unwritten byte `unwritten` (R208, R230). -/
def memRead (p : Params) (b : BufId) (a n : Nat) (s : State) : Except Fault (List Byte) :=
  if a + n ≤ capacity p b then
    match (s.buf b).readN a n with
    | some bs => .ok bs
    | none => .error (.unwritten b a n)
  else .error (.bufferBounds b a n)

/-- `MemWrite(S, a, n, v)` (R14): outside the capacity `BufferBounds` (R208). -/
def memWrite (p : Params) (b : BufId) (a : Nat) (bs : List Byte) (s : State) : Except Fault State :=
  if a + bs.length ≤ capacity p b then .ok (s.setBuf b ((s.buf b).writeN a bs))
  else .error (.bufferBounds b a bs.length)

/-! ### Faults (R200, R204)

The block has no trap, vector, saved register or return from a trap (R200). What it has is the fault record: raising
is this one operation, and nothing returns from it (R42). -/

/-- Raising `f`: `FAULT` holds the first fault raised and every other field stays as it was (R42, R206). -/
def State.raise (s : State) (f : Fault) : State := { s with fault := some (s.fault.getD f) }

/-- The outcome of an operation from its effect on `s`. -/
def settle (s : State) (r : Except Fault State) : Host.Outcome State Fault Refusal :=
  match r with
  | .ok t => .next t
  | .error f => .next (s.raise f)

/-- A step that is not enabled is not taken: the state stays as it is (R15, R151, R171, R190; log 5). -/
def whenEnabled (enabled : Bool) (s : State) (r : Except Fault State) : Except Fault State :=
  if enabled then r else .ok s

/-! ### The record of the ports -/

/-- The state with one more port action in its record. -/
def State.record (s : State) (a : PortAct) : State := { s with log := s.log ++ [a] }

/-- The state after the oldest turn was taken from the schedule. -/
def State.withSched (s : State) (ts : List Turn) : State := { s with sched := ts }

end Sys2Proof.Machine
end

