-- ==== Sys2Proof/Machine/Flags.lean ====
section
/-! DEFINITION. The block has no condition codes (R40): its flags are the steering bits `SEQ`, `TX_INFLIGHT`,
`FRAMING_ERR` and `T1_BUSY`. Here is every rule that computes one of them. -/

namespace Sys2Proof.Machine

/-- The PCB of the next I-block (R140, R82): `(SEQ == 1) ? SEQ_MASK : 0x00`. -/
def iBlockPcb (seq : Bool) : Byte := if seq then Config.seqMask else 0x00

/-- `SEQ` after a `T1TransactApdu` call (R140): `SEQ ^ 1`. -/
def toggleSeq (seq : Bool) : Bool := !seq

/-- `SEQ` after a start with the byte `pcb` (R113): 0 for `PCB_RESET`, else as before. -/
def seqAfterStart (p : Params) (pcb : Byte) (seq : Bool) : Bool := if pcb = p.pcbReset then false else seq

/-- `TX_INFLIGHT` after a `UsbWrite` that accepted `a` bytes (R190). -/
def txAfterWrite (a : Nat) (tx : Bool) : Bool := if a > 0 then true else tx

/-- A discard sets the sticky `FRAMING_ERR` (R156, R28). -/
def State.markFramingErr (s : State) : State := { s with framingErr := true }

/-- A TX-complete event clears `TX_INFLIGHT` (R213). -/
def State.releaseTx (s : State) : State := { s with txInflight := false }

end Sys2Proof.Machine
end

