-- ==== Sys2Proof/Machine/Operands.lean ====
section
/-! DEFINITION. The operands the rules compute from registers and fields. -/

namespace Sys2Proof.Machine

/-- `LenValue()` (R115): the payload's length, or the requested reply size when there is no payload. -/
def lenValue (s : State) : Half := if s.t1outlen.toNat > 0 then s.t1outlen else s.t1explen

/-- `ErrByte(rv)` (R185): the low 8 bits of the magnitude of a negative `rv`. -/
def errByte (rv : Word) : Byte := BitVec.ofInt 8 (-rv.toInt)

/-- The size of the next chunk (R190): `min(USB_MAX_WRITE, RSP_LEN − FOFF)`. -/
def chunkSize (p : Params) (s : State) : Nat := min p.usbMaxWrite (s.rspLen - s.foff)

/-- The largest read that fits `RXB` (R152): `RX_CAP − FILL`. -/
def freeSpace (p : Params) (s : State) : Nat := p.rxCap - s.fill

/-- The size of a reply body (R124): `RX_DECL + 2`, payload and CRC. -/
def bodySize (s : State) : Nat := s.rxDecl.toNat + Config.t1Crc

/-- `le32` of four bytes read from a buffer (R13), 0 for any other number of bytes (no rule reads another number). -/
def le32List : List Byte → Word
  | [b0, b1, b2, b3] => le32 b0 b1 b2 b3
  | _ => 0

/-- The command's `length` field, `le32(MSG[1..5))` (R71). -/
def msgLength (p : Params) (s : State) : Except Fault Word := do
  let bs ← memRead p .msg 1 4 s
  return le32List bs

/-- The buffered message's `length` field, `le32(RXB[1..5))` (R153). -/
def rxbLength (p : Params) (s : State) : Except Fault Word := do
  let bs ← memRead p .rxb 1 4 s
  return le32List bs

/-- The first four bytes of a frame (R114): NAD, PCB, LEN high byte first. -/
def frameHead (p : Params) (s : State) : List Byte :=
  [p.nadTx, s.t1pcb, hiByte (lenValue s), loByte (lenValue s)]

end Sys2Proof.Machine
end

