-- ==== Sys2Proof/Machine/Dispatcher.lean ====
section
/-! DEFINITION. The CCID dispatcher (43_dispatcher.md): the response header writer, the eight commands, the processor's
answer, the response flush and the TX-complete event. -/

namespace Sys2Proof.Machine

/-! ### The response header writer -/

/-- `Respond(rtype, len, status, error, param)` (R172). `MSG[5]` and `MSG[6]` are not written (R187). -/
def respond (p : Params) (rtype : Byte) (len : Word) (status error param : Byte) (s : State) :
    Except Fault State := do
  let t ← memWrite p .msg 0 [rtype] s
  let t ← memWrite p .msg 1 (le32bytes len) t
  let t ← memWrite p .msg 7 [status, error, param] t
  return { t with rspLen := Config.hdr + len.toNat, foff := 0, fstate := .flush }

/-! ### Commands, each enabled in BUILD (R171, R216) -/

/-- `PowerOn()` (R174, R175). -/
def powerOn (p : Params) (s : State) : Except Fault State :=
  whenEnabled (s.fstate == .build) s do
    let t ← memWrite p .msg Config.hdr Config.atrBytes s
    respond p Config.rspDataBlock 4 0x00 0x00 0x00 t

/-- `PowerOff()` (R176). -/
def powerOff (p : Params) (s : State) : Except Fault State :=
  whenEnabled (s.fstate == .build) s (respond p Config.rspSlotStatus 0 0x00 0x00 0x00 s)

/-- `GetSlotStatus()` (R177). -/
def getSlotStatus (p : Params) (s : State) : Except Fault State :=
  whenEnabled (s.fstate == .build) s (respond p Config.rspSlotStatus 0 0x00 0x00 0x00 s)

/-- `XfrBlockStart()` (R178): `Process(le32(MSG[1..5)))` over `MSG[10..)`. -/
def xfrBlockStart (p : Params) (s : State) : Except Fault State :=
  whenEnabled (s.fstate == .build) s do
    let len ← msgLength p s
    return { s.record (.process len) with fstate := .process }

/-- `GetParameters()` (R181). -/
def getParameters (p : Params) (s : State) : Except Fault State :=
  whenEnabled (s.fstate == .build) s (respond p Config.rspParameters 0 0x00 0x00 Config.paramProto s)

/-- `ResetParameters()` (R182). -/
def resetParameters (p : Params) (s : State) : Except Fault State :=
  whenEnabled (s.fstate == .build) s (respond p Config.rspParameters 0 0x00 0x00 Config.paramProto s)

/-- `SetParameters()` (R183). -/
def setParameters (p : Params) (s : State) : Except Fault State :=
  whenEnabled (s.fstate == .build) s (respond p Config.rspParameters 0 0x00 0x00 Config.paramProto s)

/-- `Unknown()` (R184). -/
def unknownCommand (p : Params) (s : State) : Except Fault State :=
  whenEnabled (s.fstate == .build) s (respond p Config.rspSlotStatus 0 Config.statusFailed 0x00 0x00 s)

/-- The command a row of the dispatch table names (R171, R173). -/
def runCommand (p : Params) (k : CommandKind) (s : State) : Except Fault State :=
  match k with
  | .powerOn => powerOn p s
  | .powerOff => powerOff p s
  | .getSlotStatus => getSlotStatus p s
  | .xfrBlock => xfrBlockStart p s
  | .getParameters => getParameters p s
  | .resetParameters => resetParameters p s
  | .setParameters => setParameters p s
  | .unknown => unknownCommand p s

/-- `Dispatch` (R171): the command `MSG[0]` selects, in the same step. -/
def dispatch (p : Params) (s : State) : Except Fault State :=
  whenEnabled (s.fstate == .build) s do
    let t ← memRead p .msg 0 1 s
    runCommand p (commandKind (t.headD 0)) s

/-! ### The processor's answer -/

/-- The answer `rv ≥ 0` (R179): a data-block of `rv` bytes; above `MSG_PAYLOAD_CAP` `ProcOverrun` (R205); while
`FSTATE ≠ PROCESS` `PortContract` (R206). A negative `rv` is not this row's. -/
def answerOk (p : Params) (rv : Word) (s : State) : Except Fault State :=
  if s.fstate ≠ .process then .error (.portContract .process)
  else whenEnabled (decide (0 ≤ rv.toInt)) s <|
    if rv.toInt > p.msgPayloadCap then .error (.procOverrun rv)
    else respond p Config.rspDataBlock rv 0x00 0x00 0x00 s

/-- The answer `rv < 0` (R180, R185): an empty data-block with status FAILED and the error byte. -/
def answerFail (p : Params) (rv : Word) (s : State) : Except Fault State :=
  if s.fstate ≠ .process then .error (.portContract .process)
  else whenEnabled (decide (rv.toInt < 0)) s
    (respond p Config.rspDataBlock 0 Config.statusFailed (errByte rv) 0x00 s)

/-! ### The flush -/

/-- A chunk of which `a` bytes were accepted (R190): back to AWAIT when every byte is (R192). -/
def State.tookUsbTx (s : State) (rest : List Nat) (chunk : List Byte) (a : Nat) : State :=
  { s with
    usbTx := rest, log := s.log ++ [.usbWrite chunk a]
    txInflight := txAfterWrite a s.txInflight
    foff := s.foff + a
    fstate := if s.foff + a = s.rspLen then .await else s.fstate }

/-- `FlushChunk` (R190 to R192), enabled while `FSTATE = FLUSH` and `TX_INFLIGHT = 0`. It holds while no answer is
pending; an answer above the chunk's size breaks the port's contract (R206). -/
def flushChunk (p : Params) (s : State) : Except Fault State :=
  whenEnabled (s.fstate == .flush && !s.txInflight) s do
    let chunk ← memRead p .msg s.foff (chunkSize p s) s
    match s.usbTx with
    | [] => return s
    | a :: rest =>
      if a > chunkSize p s then .error (.portContract .usbTx)
      else return s.tookUsbTx rest chunk a

/-- `TxComplete` (R213); while `TX_INFLIGHT = 0` `PortContract` (R206). -/
def txComplete (s : State) : Except Fault State :=
  if s.txInflight then .ok s.releaseTx else .error (.portContract .usbTx)

/-! ### The response rows -/

/-- A response row (R172 with the row's type byte): enabled in BUILD only (log 22). In PROCESS the dispatcher takes no
step until the processor answers (R215), and the answer's own step writes its response (`answerOk`, `answerFail`). -/
def respondRow (p : Params) (rtype : Byte) (r : CcidResponse) (s : State) : Except Fault State :=
  whenEnabled (s.fstate == .build) s
    (respond p rtype r.len r.status r.error r.param s)

/-! ### The operations

A command's fields stay where the message is: the rules read them in `MSG` (R174 to R184), so a command's meaning does
not use the copy its constructor carries. -/

/-- POWER_ON (R174). -/
def execPowerOn (_m : CcidCommand) (s : State) : Host.Outcome State Fault Refusal :=
  settle s (powerOn Config.params s)

/-- POWER_OFF (R176). -/
def execPowerOff (_m : CcidCommand) (s : State) : Host.Outcome State Fault Refusal :=
  settle s (powerOff Config.params s)

/-- GET_SLOT_STATUS (R177). -/
def execGetSlotStatus (_m : CcidCommand) (s : State) : Host.Outcome State Fault Refusal :=
  settle s (getSlotStatus Config.params s)

/-- XFR_BLOCK (R178). -/
def execXfrBlock (_m : CcidCommand) (s : State) : Host.Outcome State Fault Refusal :=
  settle s (xfrBlockStart Config.params s)

/-- GET_PARAMETERS (R181). -/
def execGetParameters (_m : CcidCommand) (s : State) : Host.Outcome State Fault Refusal :=
  settle s (getParameters Config.params s)

/-- RESET_PARAMETERS (R182). -/
def execResetParameters (_m : CcidCommand) (s : State) : Host.Outcome State Fault Refusal :=
  settle s (resetParameters Config.params s)

/-- SET_PARAMETERS (R183). -/
def execSetParameters (_m : CcidCommand) (s : State) : Host.Outcome State Fault Refusal :=
  settle s (setParameters Config.params s)

/-- UNKNOWN (R184). -/
def execUnknown (_type : Byte) (_m : CcidCommand) (s : State) : Host.Outcome State Fault Refusal :=
  settle s (unknownCommand Config.params s)

/-- RSP_DATA_BLOCK (R172, type 0x80). -/
def execRspDataBlock (r : CcidResponse) (s : State) : Host.Outcome State Fault Refusal :=
  settle s (respondRow Config.params Config.rspDataBlock r s)

/-- RSP_SLOT_STATUS (R172, type 0x81). -/
def execRspSlotStatus (r : CcidResponse) (s : State) : Host.Outcome State Fault Refusal :=
  settle s (respondRow Config.params Config.rspSlotStatus r s)

/-- RSP_PARAMETERS (R172, type 0x82). -/
def execRspParameters (r : CcidResponse) (s : State) : Host.Outcome State Fault Refusal :=
  settle s (respondRow Config.params Config.rspParameters r s)

/-- DISPATCH (R171). -/
def execDispatch (s : State) : Host.Outcome State Fault Refusal :=
  settle s (dispatch Config.params s)

/-- XFR_BLOCK_ANSWER_OK (R179). -/
def execXfrBlockAnswerOk (rv : Word) (s : State) : Host.Outcome State Fault Refusal :=
  settle s (answerOk Config.params rv s)

/-- XFR_BLOCK_ANSWER_FAIL (R180). -/
def execXfrBlockAnswerFail (rv : Word) (s : State) : Host.Outcome State Fault Refusal :=
  settle s (answerFail Config.params rv s)

/-- FLUSH_CHUNK (R190). -/
def execFlushChunk (s : State) : Host.Outcome State Fault Refusal :=
  settle s (flushChunk Config.params s)

/-- TX_COMPLETE (R213). -/
def execTxComplete (s : State) : Host.Outcome State Fault Refusal :=
  settle s (txComplete s)

end Sys2Proof.Machine
end

