-- ==== Sys2Proof/Machine/Reassembler.lean ====
section
/-! DEFINITION. The CCID frame reassembler (42_reassembler.md). -/

namespace Sys2Proof.Machine

/-- The oldest pending `UsbRead` answer is taken, and the request recorded (R60, R152). -/
def State.tookUsbRx (s : State) (p : Params) (rest : List (List Byte)) (c : List Byte) : State :=
  { s with
    fill := s.fill + c.length, usbRx := rest, log := s.log ++ [.usbRead (freeSpace p s) c] }

/-- `ReadMore()` (R152): a `UsbRead` of at most the free space of `RXB`, holding while no answer is pending; an empty or
too long answer breaks the port's contract (R206). -/
def readMore (p : Params) (s : State) : Except Fault State :=
  match s.usbRx with
  | [] => .ok s
  | c :: rest =>
    if c.length = 0 ∨ c.length > freeSpace p s then .error (.portContract .usbRx)
    else do
      let t ← memWrite p .rxb s.fill c s
      return t.tookUsbRx p rest c

/-- `Yield(B)` (R155): the message goes to `MSG`, the bytes beyond it to the front of `RXB`. -/
def yieldMessage (p : Params) (boundary : Nat) (s : State) : Except Fault State := do
  let m ← memRead p .rxb 0 boundary s
  let t ← memWrite p .msg 0 m s
  let kept ← memRead p .rxb boundary (s.fill - boundary) t
  let t ← memWrite p .rxb 0 kept t
  return { t with fill := s.fill - boundary, fstate := .build }

/-- `Discard()` (R156): every buffered byte is dropped, `FRAMING_ERR` is set, no response is sent. -/
def discard (s : State) : State := { s.markFramingErr with fill := 0 }

/-- `Reassemble` (R151), enabled while `FSTATE = AWAIT`. -/
def reassemble (p : Params) (s : State) : Except Fault State :=
  whenEnabled (s.fstate == .await) s <|
    if s.fill ≥ Config.hdr then do
      let len ← rxbLength p s
      if len.toNat > Config.maxMsg then return discard s
      else if s.fill ≥ Config.hdr + len.toNat then yieldMessage p (Config.hdr + len.toNat) s
      else readMore p s
    else readMore p s

/-- REASSEMBLE (R151). -/
def execReassemble (s : State) : Host.Outcome State Fault Refusal :=
  settle s (reassemble Config.params s)

end Sys2Proof.Machine
end

