-- ==== Sys2Proof/Machine/T1.lean ====
section
/-! DEFINITION. The T=1′ block-transport engine (41_t1_transport.md): the start of a transaction, one I2C attempt per step
in each of the three phases, and the operations of the table's rows. -/

namespace Sys2Proof.Machine

/-! ### Parts of steps -/

/-- `Complete(v)` (R128). `ATTEMPT` is unchanged; the port request is answered with `v`. -/
def State.complete (s : State) (v : Word) : State :=
  { s with t1result := v, t1busy := false, t1state := .idle, log := s.log ++ [.t1Answer v] }

/-- `ATTEMPT <- 1; goto ph` (R112, R117, R120): the first attempt of a phase (R118). -/
def State.enterPhase (s : State) (ph : T1State) : State := { s with attempt := 1, t1state := ph }

/-- `Delay(T_RETRY); ATTEMPT <- ATTEMPT + 1` (R117, R118, R120, R124). -/
def State.nextAttempt (s : State) : State := { s with attempt := s.attempt + 1, log := s.log ++ [.delay] }

/-- The oldest pending `I2cWrite` answer is taken, and the request recorded (R63). -/
def State.tookI2cWr (s : State) (rest : List Int) (a : PortAct) : State :=
  { s with i2cWr := rest, log := s.log ++ [a] }

/-- The oldest pending `I2cRead` answer is taken, and the request recorded (R63). -/
def State.tookI2cRd (s : State) (rest : List (List Byte)) (a : PortAct) : State :=
  { s with i2cRd := rest, log := s.log ++ [a] }

/-- `TransportFail()` (R126): the generic-error bytes at `APDU[0..GE_LEN)`, result 0. -/
def transportFail (p : Params) (s : State) : Except Fault State := do
  let t ← memWrite p .apdu 0 p.genericErr s
  return t.complete 0

/-- What a failed attempt does (R117, R118, R120, R124): a delay and the next attempt, or, when the `N_ATTEMPTS`-th
failed, the end of the transaction. -/
def attemptFailed (p : Params) (s : State) : Except Fault State :=
  if s.attempt < p.nAttempts then .ok s.nextAttempt else transportFail p s

/-- `BuildFrame()` (R114). -/
def buildFrame (p : Params) (s : State) : Except Fault State := do
  let data ← memRead p .apdu 0 s.t1outlen.toNat s
  let t ← memWrite p .txf 0 (frameHead p s) s
  let t ← memWrite p .txf 4 data t
  let f ← memRead p .txf 0 (4 + s.t1outlen.toNat) t
  let t ← memWrite p .txf (4 + s.t1outlen.toNat) (frameCrc f) t
  return { t with txfLen := BitVec.ofNat 16 (s.t1outlen.toNat + 6) }

/-- The registers a start writes before its length check (R112, R113). -/
def State.takeRequest (p : Params) (s : State) (pcb : Byte) (outLength expectedReplyLength : Half) : State :=
  { s with
    t1busy := true, t1pcb := pcb, t1outlen := outLength, t1explen := expectedReplyLength,
    seq := seqAfterStart p pcb s.seq }

/-- A start's steps once the engine is free (R112): the request's registers, length check, frame, write phase. -/
def startTransaction (p : Params) (pcb : Byte) (outLength expectedReplyLength : Half) (s : State) :
    Except Fault State :=
  if outLength.toNat ≥ Config.t1MaxOut then
    .ok ((s.takeRequest p pcb outLength expectedReplyLength).complete Config.errTooLong)
  else do
    let t ← buildFrame p (s.takeRequest p pcb outLength expectedReplyLength)
    return t.enterPhase .write

/-- `T1Transact(pcb, outLength, expectedReplyLength)` (R112); while busy `T1Overlap` (R111, R207). -/
def transact (p : Params) (pcb : Byte) (outLength expectedReplyLength : Half) (s : State) : Except Fault State :=
  if s.t1busy then .error .t1Overlap
  else startTransaction p pcb outLength expectedReplyLength s

/-- The start of an I-block (R140): `SEQ` toggles, then `T1Transact` with the PCB `pcb`, in one step. -/
def startIBlock (p : Params) (pcb : Byte) (inLength expectedReplyLength : Half) (s : State) : Except Fault State :=
  if s.t1busy then .error .t1Overlap
  else startTransaction p pcb inLength expectedReplyLength { s with seq := toggleSeq s.seq }

/-- `T1TransactApdu(inLength, expectedReplyLength)` (R140): the PCB carries `SEQ` as it was before the toggle. -/
def transactApdu (p : Params) (inLength expectedReplyLength : Half) (s : State) : Except Fault State :=
  startIBlock p (iBlockPcb s.seq) inLength expectedReplyLength s

/-- The I-block row for one value of `SEQ`: what `T1TransactApdu` does when `SEQ` has that value, and not enabled when
it has the other (R140; log 21). A request while busy is `T1Overlap` either way (R111). -/
def iBlockFor (p : Params) (seq : Bool) (inLength expectedReplyLength : Half) (s : State) : Except Fault State :=
  whenEnabled (s.t1busy || s.seq == seq) s (startIBlock p (iBlockPcb seq) inLength expectedReplyLength s)

/-! ### The phases -/

/-- One attempt of the write phase (R117): the whole frame from byte 0. It holds while no answer is pending. -/
def writeAttempt (p : Params) (s : State) : Except Fault State :=
  whenEnabled (s.t1state == .write) s do
    let f ← memRead p .txf 0 s.txfLen.toNat s
    match s.i2cWr with
    | [] => return s
    | st :: rest =>
      if st = 0 then return (s.tookI2cWr rest (.i2cWrite p.seAddr f st)).enterPhase .rdhdr
      else attemptFailed p (s.tookI2cWr rest (.i2cWrite p.seAddr f st))

/-- A header read whole (R121). -/
def State.setHeader (s : State) (h : RxHdr) : State := { s with rxHdr := h, rxDecl := be16 h.lenHi h.lenLo }

/-- What follows a whole header (R120): no payload requested ends with 0 (R122), a body that does not fit `APDU` ends
with `ERR_HDR` (R123), otherwise the body phase. -/
def afterHeader (p : Params) (s : State) : State :=
  if s.t1explen.toNat = 0 then s.complete 0
  else if bodySize s > p.apduCap then s.complete Config.errHdr
  else s.enterPhase .rdbody

/-- One attempt of the header phase (R120): an answer of exactly 4 bytes is the header, a shorter one is discarded and
a failed attempt, a longer one breaks the port's contract (R206). -/
def rdhdrAttempt (p : Params) (s : State) : Except Fault State :=
  whenEnabled (s.t1state == .rdhdr) s <|
    match s.i2cRd with
    | [] => .ok s
    | r :: rest =>
      match r with
      | [nad, pcb, lenHi, lenLo] =>
        .ok (afterHeader p
          ((s.tookI2cRd rest (.i2cRead p.seAddr Config.t1Hdr r)).setHeader ⟨nad, pcb, lenHi, lenLo⟩))
      | _ =>
        if r.length > Config.t1Hdr then .error (.portContract .i2c)
        else attemptFailed p (s.tookI2cRd rest (.i2cRead p.seAddr Config.t1Hdr r))

/-- One attempt of the body phase (R124): `RX_DECL + 2` bytes into `APDU`, result `RX_DECL`. -/
def rdbodyAttempt (p : Params) (s : State) : Except Fault State :=
  whenEnabled (s.t1state == .rdbody) s <|
    match s.i2cRd with
    | [] => .ok s
    | r :: rest =>
      if r.length > bodySize s then .error (.portContract .i2c)
      else if r.length = bodySize s then do
        let t ← memWrite p .apdu 0 r (s.tookI2cRd rest (.i2cRead p.seAddr (bodySize s) r))
        return t.complete (s.rxDecl.setWidth 32)
      else attemptFailed p (s.tookI2cRd rest (.i2cRead p.seAddr (bodySize s) r))

/-! ### The operations -/

/-- T1_TRANSACT (R112). -/
def execT1Transact (pcb : Byte) (outLength expectedReplyLength : Half) (s : State) :
    Host.Outcome State Fault Refusal :=
  settle s (transact Config.params pcb outLength expectedReplyLength s)

/-- T1_TRANSACT_APDU (R140). -/
def execT1TransactApdu (inLength expectedReplyLength : Half) (s : State) : Host.Outcome State Fault Refusal :=
  settle s (transactApdu Config.params inLength expectedReplyLength s)

/-- I_BLOCK_NS0 (R140 with `SEQ = 0`, R82): an I-block with PCB 0x00. -/
def execIBlockNs0 (outLength expectedReplyLength : Half) (s : State) : Host.Outcome State Fault Refusal :=
  settle s (iBlockFor Config.params false outLength expectedReplyLength s)

/-- I_BLOCK_NS1 (R140 with `SEQ = 1`, R82): an I-block with PCB 0x40. -/
def execIBlockNs1 (outLength expectedReplyLength : Half) (s : State) : Host.Outcome State Fault Refusal :=
  settle s (iBlockFor Config.params true outLength expectedReplyLength s)

/-- CTRL_RESET (R113): a start with `PCB_RESET`. -/
def execCtrlReset (outLength expectedReplyLength : Half) (s : State) : Host.Outcome State Fault Refusal :=
  settle s (transact Config.params Config.params.pcbReset outLength expectedReplyLength s)

/-- ANY_PCB (R112, R83): a start with any other PCB, sent unchanged. -/
def execAnyPcb (pcb : Byte) (outLength expectedReplyLength : Half) (s : State) : Host.Outcome State Fault Refusal :=
  settle s (transact Config.params pcb outLength expectedReplyLength s)

/-- T1_WRITE_ATTEMPT (R117). -/
def execT1WriteAttempt (s : State) : Host.Outcome State Fault Refusal :=
  settle s (writeAttempt Config.params s)

/-- T1_RDHDR_ATTEMPT (R120). -/
def execT1RdhdrAttempt (s : State) : Host.Outcome State Fault Refusal :=
  settle s (rdhdrAttempt Config.params s)

/-- T1_RDBODY_ATTEMPT (R124). -/
def execT1RdbodyAttempt (s : State) : Host.Outcome State Fault Refusal :=
  settle s (rdbodyAttempt Config.params s)

end Sys2Proof.Machine
end

