-- ==== Sys2Proof/Machine/Agents.lean ====
section
/-! DEFINITION. Who moves (R211, R214): the operation the framer and the engine take in their present state, the writes
of the outside agents, and where an operation is placed so that the next step runs it. -/

namespace Sys2Proof.Machine

/-- The framer's step (R150, R170, R171, R190): none in PROCESS, where it waits for the processor (R215). -/
def framerOp (s : State) : Option Instr :=
  match s.fstate with
  | .await => some .reassemble
  | .build => some .dispatch
  | .process => none
  | .flush => some .flushChunk

/-- The engine's step (R111): none in IDLE. -/
def engineOp (s : State) : Option Instr :=
  match s.t1state with
  | .idle => none
  | .write => some .t1WriteAttempt
  | .rdhdr => some .t1RdhdrAttempt
  | .rdbody => some .t1RdbodyAttempt

/-- The block's own move when the schedule settles nothing: the framer while the engine is idle, the engine while the
framer waits in PROCESS, and where both have a step a free choice (R214; log 3). -/
def ownTurn (s : State) : Turn × State :=
  if s.t1state = .idle then (.framer, s)
  else if s.fstate = .process then (.engine, s)
  else (if Config.engineMovesFirst s.choices then .engine else .framer, { s with choices := s.choices + 1 })

/-- The turn taken next and the state in which it is taken. -/
def nextTurn (s : State) : Turn × State :=
  match s.sched with
  | t :: ts => (t, s.withSched ts)
  | [] => ownTurn s

/-- The processor writes `MSG[10 + off ..]` (R62), which it owns only while `FSTATE = PROCESS` (R50; log 8). -/
def processorWrite (p : Params) (off : Nat) (bs : List Byte) (s : State) : Except Fault State :=
  if s.fstate ≠ .process then .error (.portContract .process)
  else memWrite p .msg (Config.hdr + off) bs s

/-- The caller writes `APDU[off ..]` (R64); while `T1_BUSY = 1` `T1CallerWrite` (R209). -/
def callerWrite (p : Params) (off : Nat) (bs : List Byte) (s : State) : Except Fault State :=
  if s.t1busy then .error .t1CallerWrite
  else memWrite p .apdu off bs s

/-- The whole message that stands in `MSG`: header and declared payload (R71, R74). -/
def storedMessage (p : Params) (s : State) : Option (List Byte) :=
  match msgLength p s with
  | .ok len => (memRead p .msg 0 (Config.hdr + len.toNat) s).toOption
  | .error _ => none

/-! ### What a request may run (log 4) -/

/-- The command DISPATCH would run now (R171): none outside BUILD. -/
def dueCommand (s : State) : Option CommandKind :=
  if s.fstate = .build then (Memory.read s.msg 0).map commandKind else none

/-- The response type of a command (R173); a transfer-block has none before the processor's answer (R178 to R180). -/
def responseType : CommandKind → Option Byte
  | .powerOn => some Config.rspDataBlock
  | .powerOff => some Config.rspSlotStatus
  | .getSlotStatus => some Config.rspSlotStatus
  | .xfrBlock => none
  | .getParameters => some Config.rspParameters
  | .resetParameters => some Config.rspParameters
  | .setParameters => some Config.rspParameters
  | .unknown => some Config.rspSlotStatus

/-- May a request run this operation now? A command row only where the message in `MSG` selects it, a response row only
where that message's response has its type: these two are parts of DISPATCH (R171, R172). Every other row always; it
tests its own state. -/
def admitted (i : Instr) (s : State) : Bool :=
  match i with
  | .powerOn _ => dueCommand s == some .powerOn
  | .powerOff _ => dueCommand s == some .powerOff
  | .getSlotStatus _ => dueCommand s == some .getSlotStatus
  | .xfrBlock _ => dueCommand s == some .xfrBlock
  | .getParameters _ => dueCommand s == some .getParameters
  | .resetParameters _ => dueCommand s == some .resetParameters
  | .setParameters _ => dueCommand s == some .setParameters
  | .unknown _ _ => dueCommand s == some .unknown
  | .rspDataBlock _ => (dueCommand s).bind responseType == some Config.rspDataBlock
  | .rspSlotStatus _ => (dueCommand s).bind responseType == some Config.rspSlotStatus
  | .rspParameters _ => (dueCommand s).bind responseType == some Config.rspParameters
  | .iBlockNs0 _ _ => true
  | .iBlockNs1 _ _ => true
  | .ctrlReset _ _ => true
  | .anyPcb _ _ _ => true
  | .t1Transact _ _ _ => true
  | .t1TransactApdu _ _ => true
  | .crc16 _ _ => true
  | .frameCrc _ => true
  | .reassemble => true
  | .dispatch => true
  | .xfrBlockAnswerOk _ => true
  | .xfrBlockAnswerFail _ => true
  | .flushChunk => true
  | .t1WriteAttempt => true
  | .t1RdhdrAttempt => true
  | .t1RdbodyAttempt => true
  | .txComplete => true

/-- The operation a request runs, none where it is not admitted. -/
def requestOp (i : Instr) (s : State) : Option Instr := if admitted i s then some i else none

/-! ### Placing an operation (log 16, log 17) -/

/-- The state in which a message stands in `MSG` as a yield leaves it and the turn `t` is taken next. -/
def placeMessage (bs : List Byte) (t : Turn) (s : State) : State :=
  { s with fault := none, fstate := .build, msg := s.msg.writeN 0 bs, sched := t :: s.sched }

/-- The state in which the response row `i` is requested next, after a command of type `t` with the row's slot and
seq. -/
def placeResponse (t : Byte) (i : Instr) (r : CcidResponse) (s : State) : State :=
  placeMessage (encodeMessage t ⟨r.slot, r.seq, 0x00, 0x00, 0x00, []⟩) (.request i) s

/-- The state in which the I-block row `i` is requested next: an idle engine and the row's `SEQ`. -/
def placeIBlock (seq : Bool) (i : Instr) (s : State) : State :=
  { s with fault := none, t1busy := false, t1state := .idle, seq := seq, sched := .request i :: s.sched }

/-- Places a table word's operation where the next step finds it: a response or I-block row as a request, every other
word as the message in `MSG`. -/
def placeWord (nbits w : Nat) (s : State) : State :=
  match decodeTableWord nbits w with
  | some (.rspDataBlock r) => placeResponse Config.cmdPowerOn (.rspDataBlock r) r s
  | some (.rspSlotStatus r) => placeResponse Config.cmdPowerOff (.rspSlotStatus r) r s
  | some (.rspParameters r) => placeResponse Config.cmdGetParameters (.rspParameters r) r s
  | some (.iBlockNs0 o e) => placeIBlock false (.iBlockNs0 o e) s
  | some (.iBlockNs1 o e) => placeIBlock true (.iBlockNs1 o e) s
  | _ => placeMessage (tableMessage nbits w) .framer s

end Sys2Proof.Machine
end

