-- ==== Sys2Proof/Machine/Dispatch.lean ====
section
/-! DEFINITION. From an operation to its meaning, one arm per row of the table. -/

namespace Sys2Proof.Machine

def exec (i : Instr) (s : State) : Host.Outcome State Fault Refusal :=
  match i with
  | .powerOn m => Sys2Proof.Machine.execPowerOn m s
  | .powerOff m => Sys2Proof.Machine.execPowerOff m s
  | .getSlotStatus m => Sys2Proof.Machine.execGetSlotStatus m s
  | .xfrBlock m => Sys2Proof.Machine.execXfrBlock m s
  | .getParameters m => Sys2Proof.Machine.execGetParameters m s
  | .resetParameters m => Sys2Proof.Machine.execResetParameters m s
  | .setParameters m => Sys2Proof.Machine.execSetParameters m s
  | .unknown t m => Sys2Proof.Machine.execUnknown t m s
  | .rspDataBlock r => Sys2Proof.Machine.execRspDataBlock r s
  | .rspSlotStatus r => Sys2Proof.Machine.execRspSlotStatus r s
  | .rspParameters r => Sys2Proof.Machine.execRspParameters r s
  | .iBlockNs0 o e => Sys2Proof.Machine.execIBlockNs0 o e s
  | .iBlockNs1 o e => Sys2Proof.Machine.execIBlockNs1 o e s
  | .ctrlReset o e => Sys2Proof.Machine.execCtrlReset o e s
  | .anyPcb pcb o e => Sys2Proof.Machine.execAnyPcb pcb o e s
  | .t1Transact pcb o e => Sys2Proof.Machine.execT1Transact pcb o e s
  | .t1TransactApdu n e => Sys2Proof.Machine.execT1TransactApdu n e s
  | .crc16 data seed => Sys2Proof.Machine.execCrc16 data seed s
  | .frameCrc f => Sys2Proof.Machine.execFrameCrc f s
  | .reassemble => Sys2Proof.Machine.execReassemble s
  | .dispatch => Sys2Proof.Machine.execDispatch s
  | .xfrBlockAnswerOk rv => Sys2Proof.Machine.execXfrBlockAnswerOk rv s
  | .xfrBlockAnswerFail rv => Sys2Proof.Machine.execXfrBlockAnswerFail rv s
  | .flushChunk => Sys2Proof.Machine.execFlushChunk s
  | .t1WriteAttempt => Sys2Proof.Machine.execT1WriteAttempt s
  | .t1RdhdrAttempt => Sys2Proof.Machine.execT1RdhdrAttempt s
  | .t1RdbodyAttempt => Sys2Proof.Machine.execT1RdbodyAttempt s
  | .txComplete => Sys2Proof.Machine.execTxComplete s

end Sys2Proof.Machine
end

