-- ==== Sys2Proof/Machine/Step.lean ====
section
/-! DEFINITION. One step of the machine: the turn taken next (R214), and nothing while `FAULT` is set (R42). -/

namespace Sys2Proof.Machine

/-- An agent without a step in its present state waits: the state stays as it is (R215). -/
def runOp (i : Option Instr) (s : State) : Host.Outcome State Fault Refusal :=
  match i with
  | some i => exec i s
  | none => .next s

/-- One turn. -/
def runTurn (t : Turn) (s : State) : Host.Outcome State Fault Refusal :=
  match t with
  | .framer => runOp (framerOp s) s
  | .engine => runOp (engineOp s) s
  | .request i => if i.wf Config.params then runOp (requestOp i s) s else .refused .illFormed
  | .processorWrite off bs => settle s (processorWrite Config.params off bs s)
  | .callerWrite off bs => settle s (callerWrite Config.params off bs s)

/-- One step. While `FAULT` is set no step is taken (R42, R204): the machine stops with that fault. -/
def step (s : State) : Host.Outcome State Fault Refusal :=
  match s.fault with
  | some f => .fault f
  | none => runTurn (nextTurn s).1 (nextTurn s).2

/-- `s` with the operation of a table word placed so that the next step runs it (`placeWord`). -/
def State.withFetchWord (s : State) (nbits w : Nat) : State := placeWord nbits w s

end Sys2Proof.Machine
end

