-- ==== Sys2Proof/Safety.lean ====
section
/-! DEFINITION. What statements about the block speak of: the bytes a write puts at an address, what left the USB port,
the invariant of the block, the end of a run. -/

namespace Sys2Proof.Safety

open Sys2Proof.Machine

/-- The byte that the string `bs` written from address `base` on puts at address `a`, if any. -/
def bytesAt (base : Nat) (bs : List Byte) (a : Nat) : Option Byte :=
  if base ≤ a then bs[a - base]? else none

/-- The byte the response header writer puts at address `a` of `MSG` (R172): type at 0, length at 1..4, status, error
and param at 7..9; none elsewhere, so not at 5 (slot) and 6 (seq). -/
def headerByte (rtype : Byte) (len : Word) (status error param : Byte) (a : Nat) : Option Byte :=
  (bytesAt 0 (rtype :: le32bytes len) a).or (bytesAt 7 [status, error, param] a)

/-- A transaction has been started (R112): the request's registers, `SEQ`, the frame buffer and its length, the first
attempt of the write phase; everything else as in `s`. -/
def accepted (pcb : Byte) (outLength expectedReplyLength : Half) (seq : Bool) (txf : Memory) (s : State) : State :=
  { s with
    t1busy := true, t1pcb := pcb, t1outlen := outLength, t1explen := expectedReplyLength, seq := seq
    txf := txf, txfLen := BitVec.ofNat 16 (outLength.toNat + 6), attempt := 1, t1state := .write }

/-- A transaction has ended with the result `v` (R128); everything else as in `s`. -/
def ended (v : Word) (s : State) : State :=
  { s with t1result := v, t1busy := false, t1state := .idle, log := s.log ++ [.t1Answer v] }

/-- A start was rejected as too long (R116): the request's registers, `SEQ`, the result −1; everything else as in
`s`. -/
def rejected (pcb : Byte) (outLength expectedReplyLength : Half) (seq : Bool) (s : State) : State :=
  ended 0xFFFFFFFF { s with t1pcb := pcb, t1outlen := outLength, t1explen := expectedReplyLength, seq := seq }

/-- A failed attempt is followed by a delay and the next one (R118); everything else as in `s`. -/
def retried (s : State) : State := { s with attempt := s.attempt + 1, log := s.log ++ [.delay] }

/-- A response stands in the message buffer `msg` and its flush begins (R172); everything else as in `s`. -/
def answered (len : Word) (msg : Memory) (s : State) : State :=
  { s with msg := msg, rspLen := 10 + len.toNat, foff := 0, fstate := .flush }

/-- The bytes the USB transport accepted, in the order they were written (R58, R61). -/
def sentBytes (l : List PortAct) : List Byte :=
  l.flatMap fun
    | .usbWrite s accepted => s.take accepted
    | _ => []

/-- The T=1′ frame for a PCB, a LEN value and a payload (R75 to R77): NAD, PCB, LEN high byte first, DATA, CRC high
byte first. -/
def frameBytes (nad pcb : Byte) (len : Half) (data : List Byte) : List Byte :=
  nad :: pcb :: hiByte len :: loByte len :: data ++ frameCrc (nad :: pcb :: hiByte len :: loByte len :: data)

/-- An operation that starts a transaction (R112, R140): the only ones that may write `SEQ` (R129). -/
def isStart : Instr → Bool
  | .t1Transact _ _ _ | .t1TransactApdu _ _ | .ctrlReset _ _ | .anyPcb _ _ _ | .iBlockNs0 _ _ | .iBlockNs1 _ _ => true
  | _ => false

/-- An operation that answers a message in BUILD (R171, R172): DISPATCH, the commands but XFR_BLOCK, the response rows. -/
def answersInBuild : Instr → Bool
  | .dispatch | .powerOn _ | .powerOff _ | .getSlotStatus _ | .getParameters _ | .resetParameters _ | .setParameters _
  | .unknown _ _ | .rspDataBlock _ | .rspSlotStatus _ | .rspParameters _ => true
  | _ => false

/-- The processor's answer (R179, R180). -/
def isProcessorAnswer : Instr → Bool
  | .xfrBlockAnswerOk _ | .xfrBlockAnswerFail _ => true
  | _ => false

/-- An I-block's start (R140). -/
def isIBlock : Instr → Bool
  | .t1TransactApdu _ _ | .iBlockNs0 _ _ | .iBlockNs1 _ _ => true
  | _ => false

/-- The start of a `PCB_RESET` transaction (R113). -/
def isPcbReset : Instr → Bool
  | .ctrlReset _ _ => true
  | .t1Transact pcb _ _ | .anyPcb pcb _ _ => pcb == Config.params.pcbReset
  | _ => false

/-- The state after `n` steps; none where one of them answers a fault or a refusal. -/
def run : Nat → State → Option State
  | 0, s => some s
  | n + 1, s =>
    match step s with
    | .next t => run n t
    | .fault _ => none
    | .refused _ => none

/-- The state after the operations of a list, one after the other. -/
def execAll : List Instr → State → Option State
  | [], s => some s
  | i :: is, s =>
    match exec i s with
    | .next t => execAll is t
    | .fault _ => none
    | .refused _ => none

/-- All four buffers are in canonical form and hold no byte beyond their capacity (R50). -/
def BuffersOk (s : State) : Prop :=
  ∀ b : BufId, (s.buf b).wf ∧ ∀ c ∈ s.buf b, c.1 < capacity Config.params b

/-- What holds of the block between any two steps. -/
structure Inv (s : State) : Prop where
  /-- R50. -/
  buffers : BuffersOk s
  /-- R23. -/
  fill_le : s.fill ≤ Config.params.rxCap
  /-- R22: the bytes below `FILL` are valid. -/
  rxb_valid : ∀ a < s.fill, (s.rxb.read a).isSome
  /-- R24, R155: outside AWAIT the message buffer holds a whole header. -/
  msg_header : s.fstate ≠ .await → ∀ a < Config.hdr, (s.msg.read a).isSome
  /-- R25. -/
  rspLen_range : s.fstate = .flush → Config.hdr ≤ s.rspLen ∧ s.rspLen ≤ Config.hdr + Config.params.msgPayloadCap
  /-- R26, R190: a flush has a byte left to write. -/
  foff_lt : s.fstate = .flush → s.foff < s.rspLen
  /-- R37, R30: busy exactly while a phase runs. -/
  busy_iff : s.t1busy = true ↔ s.t1state ≠ .idle
  /-- R31. -/
  attempt_range : s.t1state ≠ .idle → 1 ≤ s.attempt ∧ s.attempt ≤ Config.params.nAttempts
  /-- R116, R33: an accepted payload fits, and the frame has 6 bytes more. -/
  frame_len : s.t1state ≠ .idle → s.t1outlen.toNat < Config.t1MaxOut ∧ s.txfLen.toNat = s.t1outlen.toNat + 6
  /-- R33, R114: the frame stands in `TXF`. -/
  frame_valid : s.t1state ≠ .idle → ∀ a < s.txfLen.toNat, (s.txf.read a).isSome
  /-- R35. -/
  rxDecl_eq : s.rxDecl = be16 s.rxHdr.lenHi s.rxHdr.lenLo
  /-- R122, R123: a body is read only when one was requested and it fits. -/
  body_fits : s.t1state = .rdbody → s.t1explen.toNat ≠ 0 ∧ bodySize s ≤ Config.params.apduCap

/-- R245: the end of a run, for the purpose of a claim: AWAIT with no complete message buffered, `UsbRead` holding and
the host with nothing left to send, no chunk in flight, no transaction, no fault. -/
def EndOfRun (s : State) : Prop :=
  s.fstate = .await ∧
  (s.fill < Config.hdr ∨
    ∃ len, rxbLength Config.params s = .ok len ∧ len.toNat ≤ Config.maxMsg ∧ s.fill < Config.hdr + len.toNat) ∧
  s.usbRx = [] ∧ s.txInflight = false ∧ s.t1busy = false ∧ s.fault = none

end Sys2Proof.Safety
end

