-- ==== Sys2Proof/Certificates/Slice0/Obligations.lean ====
section
/-! DEFINITION. The statements for the provers, after the rules of spec/ file by file. `Config.params` are the block's
parameters, of which a proof knows only the constraints of R10 (log 10). Where a statement speaks of an answer of a port,
that answer stands at the head of the port's list in the state (log 2); what the block asked and answered at its ports
stands in the record `log` (log 9). Both are the model's own fields. A conclusion `exec i s = .next { s with … }` is also
the operation's frame: every field it does not name is as before. -/

section

open Sys2Proof Sys2Proof.Machine Sys2Proof.Safety

/-! ### Encoding (30_encoding.md) -/

/-- R70 to R74, R79, R82, R83: decoding the encoding of a well-formed operation gives it back, for every operation the
table gives bits, every legal choice of the parameters and every value of every field. -/
def Obligations.DecodeEncodeRoundTrip : Prop :=
  ∀ (p : Params) (i : Instr) (c : Coded), p.Legal → i.wf p = true → encode p i = some c → decode p c = .ok i

/-- R70, R71, R78, R79, R82: words written out from the spec's encodings (the type bytes and the PCB layout are the
spec's from general knowledge, log 11, log 12). -/
def Obligations.DecodeWrittenWords : Prop :=
  ∀ p : Params,
    decode p (.message [0x62, 0x00, 0x00, 0x00, 0x00, 0x00, 0x07, 0x00, 0x00, 0x00]) =
      .ok (.powerOn ⟨0x00, 0x07, 0x00, 0x00, 0x00, []⟩) ∧
    decode p (.message [0x6F, 0x02, 0x00, 0x00, 0x00, 0x01, 0x09, 0x11, 0x22, 0x33, 0xAA, 0xBB]) =
      .ok (.xfrBlock ⟨0x01, 0x09, 0x11, 0x22, 0x33, [0xAA, 0xBB]⟩) ∧
    decode p (.message [0x6C, 0x00, 0x00, 0x00, 0x00, 0x00, 0x04, 0x00, 0x00, 0x00]) =
      .ok (.getParameters ⟨0x00, 0x04, 0x00, 0x00, 0x00, []⟩) ∧
    decode p (.message [0x00, 0x00, 0x00, 0x00, 0x00, 0x00, 0x0C, 0x00, 0x00, 0x00]) =
      .ok (.unknown 0x00 ⟨0x00, 0x0C, 0x00, 0x00, 0x00, []⟩) ∧
    decode p (.response [0x80, 0x04, 0x00, 0x00, 0x00, 0x00, 0x07, 0x00, 0x00, 0x00]) =
      .ok (.rspDataBlock ⟨4, 0x00, 0x07, 0x00, 0x00, 0x00⟩) ∧
    decode p (.frame 0x40 4 258) = .ok (.iBlockNs1 4 258)

/-- R80, R73, R74, R79: decoding is by the whole type byte: the seven command codes are their commands, every other byte
is UNKNOWN, none is illegal. Refused are fewer bytes than a header, a length field above 1024, fewer payload bytes than
the length field declares, bytes beyond the boundary of a message that stands alone, and a response header whose first
byte is no response code. -/
def Obligations.DecodingAcceptsAndRefuses : Prop :=
  (∀ (t : Byte) (m : CcidCommand) (rest : List Byte), m.payload.length ≤ 1024 →
    decodeMessage (t :: (le32bytes (BitVec.ofNat 32 m.payload.length) ++
        m.slot :: m.seq :: m.b7 :: m.b8 :: m.b9 :: m.payload) ++ rest) =
      .ok (if t = Config.cmdPowerOn then .powerOn m
        else if t = Config.cmdPowerOff then .powerOff m
        else if t = Config.cmdGetSlotStatus then .getSlotStatus m
        else if t = Config.cmdXfrBlock then .xfrBlock m
        else if t = Config.cmdGetParameters then .getParameters m
        else if t = Config.cmdResetParameters then .resetParameters m
        else if t = Config.cmdSetParameters then .setParameters m
        else .unknown t m, rest)) ∧
  (∀ (p : Params) (bs : List Byte), bs.length < 10 →
    decode p (.message bs) = .error .shortHeader ∧ decode p (.response bs) = .error .shortHeader) ∧
  (∀ (p : Params) (t l0 l1 l2 l3 slot seq b7 b8 b9 : Byte) (rest : List Byte),
    (1024 < (le32 l0 l1 l2 l3).toNat →
      decode p (.message (t :: l0 :: l1 :: l2 :: l3 :: slot :: seq :: b7 :: b8 :: b9 :: rest)) =
        .error .lengthTooLong) ∧
    ((le32 l0 l1 l2 l3).toNat ≤ 1024 → rest.length < (le32 l0 l1 l2 l3).toNat →
      decode p (.message (t :: l0 :: l1 :: l2 :: l3 :: slot :: seq :: b7 :: b8 :: b9 :: rest)) =
        .error .truncated) ∧
    ((le32 l0 l1 l2 l3).toNat ≤ 1024 → (le32 l0 l1 l2 l3).toNat < rest.length →
      decode p (.message (t :: l0 :: l1 :: l2 :: l3 :: slot :: seq :: b7 :: b8 :: b9 :: rest)) =
        .error .trailing) ∧
    (t ≠ Config.rspDataBlock → t ≠ Config.rspSlotStatus → t ≠ Config.rspParameters →
      decode p (.response [t, l0, l1, l2, l3, slot, seq, b7, b8, b9]) = .error .notResponse) ∧
    (rest ≠ [] →
      decode p (.response (t :: l0 :: l1 :: l2 :: l3 :: slot :: seq :: b7 :: b8 :: b9 :: rest)) = .error .trailing))

/-! ### Steps (R15, R42, R214, R231) -/

/-- R171, R173: in BUILD the framer's step runs the operation that the message standing in `MSG` decodes to, whether the
framer's turn comes from the schedule or from the block itself. -/
def Obligations.StepRunsTheStoredMessage : Prop :=
  ∀ (s : State) (bs : List Byte) (i : Instr), s.fault = none → s.fstate = .build →
    storedMessage Config.params s = some bs → decodeMessage bs = .ok (i, []) →
    (∀ ts, s.sched = .framer :: ts → step s = exec i (s.withSched ts)) ∧
    (s.sched = [] → s.t1state = .idle → step s = exec i s)

/-- R150, R111, R211: a turn of the schedule runs the operation its agent takes in the present state. A request runs
its operation where that is admitted (log 4: `admitted` bars only a command row that `MSG` does not select and a response
row that is not of the due response's type) and is not taken elsewhere; an ill-formed request is refused (log 26). -/
def Obligations.StepRunsTheTurn : Prop :=
  ∀ (s : State) (ts : List Turn), s.fault = none →
    (s.sched = .framer :: ts → s.fstate = .await → step s = exec .reassemble (s.withSched ts)) ∧
    (s.sched = .framer :: ts → s.fstate = .build → step s = exec .dispatch (s.withSched ts)) ∧
    (s.sched = .framer :: ts → s.fstate = .process → step s = .next (s.withSched ts)) ∧
    (s.sched = .framer :: ts → s.fstate = .flush → step s = exec .flushChunk (s.withSched ts)) ∧
    (s.sched = .engine :: ts → s.t1state = .idle → step s = .next (s.withSched ts)) ∧
    (s.sched = .engine :: ts → s.t1state = .write → step s = exec .t1WriteAttempt (s.withSched ts)) ∧
    (s.sched = .engine :: ts → s.t1state = .rdhdr → step s = exec .t1RdhdrAttempt (s.withSched ts)) ∧
    (s.sched = .engine :: ts → s.t1state = .rdbody → step s = exec .t1RdbodyAttempt (s.withSched ts)) ∧
    (∀ i, s.sched = .request i :: ts → i.wf Config.params = true → admitted i s = true →
      step s = exec i (s.withSched ts)) ∧
    (∀ i, s.sched = .request i :: ts → i.wf Config.params = true → admitted i s = false →
      step s = .next (s.withSched ts)) ∧
    (∀ i, s.sched = .request i :: ts → i.wf Config.params = false → step s = .refused .illFormed)

/-- R214: with nothing scheduled the block moves by itself: the framer while the engine is idle, the engine while the
framer waits in PROCESS, and one of the two where both have a step; which one is free (log 3). -/
def Obligations.StepWithoutSchedule : Prop :=
  ∀ s : State, s.fault = none → s.sched = [] →
    (s.t1state = .idle → step s = runOp (framerOp s) s) ∧
    (s.t1state ≠ .idle → s.fstate = .process → step s = runOp (engineOp s) s) ∧
    (s.t1state ≠ .idle → s.fstate ≠ .process →
      step s = runOp (framerOp s) { s with choices := s.choices + 1 } ∨
      step s = runOp (engineOp s) { s with choices := s.choices + 1 })

/-- R42: `FAULT` is set to the first fault raised, once set it is never cleared by any step, and no step is taken while
it is set. -/
def Obligations.FaultRecordHolds : Prop :=
  State.reset.fault = none ∧
  (∀ (s : State) (f : Fault), s.fault = none → (s.raise f).fault = some f) ∧
  (∀ (s : State) (f : Fault), s.fault = some f → step s = .fault f) ∧
  (∀ (i : Instr) (s t : State) (f : Fault), exec i s = .next t → s.fault = some f → t.fault = some f)

/-- R206, R214: a step that raises a fault changes nothing but the fault record. For `BufferBounds` and `unwritten`, which
a rule meets on its way (a start that reads an unwritten payload), that nothing else stays is the model's choice (DESIGN
CHOICE, log 19). -/
def Obligations.FaultsChangeNothingElse : Prop :=
  ∀ (i : Instr) (s t : State), s.fault = none → exec i s = .next t → t.fault ≠ none →
    t = { s with fault := t.fault }

/-! ### The CRC engine (40_crc16.md) -/

/-- R101: entry `i` of the printed table is 8 steps of the reflected construction from `i`. -/
def Obligations.CrcTableIsTheConstruction : Prop :=
  crcTable.length = 256 ∧
  ∀ i : Fin 256, crcTable[i.val]? = some ((List.range 8).foldl
    (fun (c : Half) _ => if c &&& 1 = 1 then (c >>> 1) ^^^ 0x8408 else c >>> 1) (BitVec.ofNat 16 i.val))

/-- R102, R104: CRC16 answers the checksum of its operands by the rule's loop (the answer stands in the record of the
ports, log 9), and writes no register; over no bytes it gives the seed back, and the seed is a running seed. -/
def Obligations.Crc16Result : Prop :=
  (∀ (data : List Byte) (seed : Half) (s : State), exec (.crc16 data seed) s = .next { s with
    log := s.log ++ [.crcAnswer (data.foldl
      (fun crc b => crcTable.getD ((crc ^^^ b.setWidth 16) &&& 0xFF).toNat 0 ^^^ (crc >>> 8)) seed)] }) ∧
  (∀ (seed : Half) (s : State), exec (.crc16 [] seed) s = .next { s with log := s.log ++ [.crcAnswer seed] }) ∧
  ∀ (a b : List Byte) (seed : Half), crc16 (a ++ b) seed = crc16 b (crc16 a seed)

/-- R103: FRAME_CRC gives the complement of CRC16 over the prefix with the seed 0xFFFF, high byte first (a result
in the record of the ports, log 23), and writes no register. -/
def Obligations.FrameCrcResult : Prop :=
  ∀ (f : List Byte) (s : State), exec (.frameCrc f) s = .next { s with
    log := s.log ++ [.frameCrcAnswer
      [(~~~ crc16 f 0xFFFF).extractLsb' 8 8, (~~~ crc16 f 0xFFFF).extractLsb' 0 8]] }

/-- R101, R103: the frame checksum tells apart any two frame prefixes of one length that differ in one byte only. -/
def Obligations.FrameCrcTellsOneByteApart : Prop :=
  ∀ (a b : List Byte) (x y : Byte), x ≠ y → frameCrc (a ++ x :: b) ≠ frameCrc (a ++ y :: b)

/-! ### Starting a transaction (R111 to R116, R140) -/

/-- R112 to R115: T1_TRANSACT and ANY_PCB while the engine is free, with a payload of less than 4089 bytes that stands in
`APDU`: the request's registers, `SEQ` reset for `PCB_RESET` only, the frame in `TXF`, the write phase. -/
def Obligations.TransactStarts : Prop :=
  ∀ (pcb : Byte) (o e : Half) (s : State) (data : List Byte), s.t1busy = false → o.toNat < 4089 →
    s.apdu.readN 0 o.toNat = some data →
    ∃ txf,
      exec (.t1Transact pcb o e) s =
        .next (accepted pcb o e (if pcb = Config.params.pcbReset then false else s.seq) txf s) ∧
      exec (.anyPcb pcb o e) s =
        .next (accepted pcb o e (if pcb = Config.params.pcbReset then false else s.seq) txf s) ∧
      ∀ a, txf.read a =
        (bytesAt 0 (frameBytes Config.params.nadTx pcb (if o.toNat > 0 then o else e) data) a).or (s.txf.read a)

/-- R113: CTRL_RESET starts a transaction whose PCB is `PCB_RESET` and sets `SEQ` to 0. -/
def Obligations.CtrlResetStarts : Prop :=
  ∀ (o e : Half) (s : State) (data : List Byte), s.t1busy = false → o.toNat < 4089 →
    s.apdu.readN 0 o.toNat = some data →
    ∃ txf,
      exec (.ctrlReset o e) s = .next (accepted Config.params.pcbReset o e false txf s) ∧
      ∀ a, txf.read a = (bytesAt 0 (frameBytes Config.params.nadTx Config.params.pcbReset
        (if o.toNat > 0 then o else e) data) a).or (s.txf.read a)

/-- R140: T1_TRANSACT_APDU, and the I-block row of the present `SEQ` (log 21), send the PCB 0x00 or `SEQ_MASK` after the
value of `SEQ` and toggle it. -/
def Obligations.TransactApduStarts : Prop :=
  ∀ (o e : Half) (s : State) (data : List Byte), s.t1busy = false → o.toNat < 4089 →
    s.apdu.readN 0 o.toNat = some data →
    ∃ txf,
      exec (.t1TransactApdu o e) s =
        .next (accepted (if s.seq then Config.seqMask else 0x00) o e (!s.seq) txf s) ∧
      (s.seq = false → exec (.iBlockNs0 o e) s = .next (accepted 0x00 o e true txf s)) ∧
      (s.seq = true → exec (.iBlockNs1 o e) s = .next (accepted Config.seqMask o e false txf s)) ∧
      ∀ a, txf.read a = (bytesAt 0 (frameBytes Config.params.nadTx (if s.seq then Config.seqMask else 0x00)
        (if o.toNat > 0 then o else e) data) a).or (s.txf.read a)

/-- R112, R113, R116, R140: a payload of 4089 bytes or more is rejected with −1: the request's registers are written, no
frame is built and no I2C request made, and `SEQ` is reset (R113) or toggled (R140) all the same. What the I-block rows
are is log 21 (DEDUCED), their PCB values log 12 (PRESUMED). -/
def Obligations.TooLongIsRejected : Prop :=
  ∀ (pcb : Byte) (o e : Half) (s : State), s.t1busy = false → 4089 ≤ o.toNat →
    exec (.t1Transact pcb o e) s =
      .next (rejected pcb o e (if pcb = Config.params.pcbReset then false else s.seq) s) ∧
    exec (.anyPcb pcb o e) s =
      .next (rejected pcb o e (if pcb = Config.params.pcbReset then false else s.seq) s) ∧
    exec (.ctrlReset o e) s = .next (rejected Config.params.pcbReset o e false s) ∧
    exec (.t1TransactApdu o e) s =
      .next (rejected (if s.seq then Config.seqMask else 0x00) o e (!s.seq) s) ∧
    (s.seq = false → exec (.iBlockNs0 o e) s = .next (rejected 0x00 o e true s)) ∧
    (s.seq = true → exec (.iBlockNs1 o e) s = .next (rejected Config.seqMask o e false s))

/-- R207, R111: a start while `T1_BUSY = 1` raises `T1Overlap`, whatever its operands. That the I-block row of the other
`SEQ` raises it too, rather than being not enabled, is log 21 (DEDUCED). -/
def Obligations.StartWhileBusyFaults : Prop :=
  ∀ (pcb : Byte) (o e : Half) (s : State), s.t1busy = true →
    exec (.t1Transact pcb o e) s = .next (s.raise .t1Overlap) ∧
    exec (.anyPcb pcb o e) s = .next (s.raise .t1Overlap) ∧
    exec (.ctrlReset o e) s = .next (s.raise .t1Overlap) ∧
    exec (.t1TransactApdu o e) s = .next (s.raise .t1Overlap) ∧
    exec (.iBlockNs0 o e) s = .next (s.raise .t1Overlap) ∧
    exec (.iBlockNs1 o e) s = .next (s.raise .t1Overlap)

/-- R230 (log 7): a start whose payload the caller has not written raises `unwritten`; that the registers which R112 writes
before the payload is read stay as they were is the model's choice (DESIGN CHOICE, log 19). -/
def Obligations.StartWithoutPayloadFaults : Prop :=
  ∀ (pcb : Byte) (o e : Half) (s : State), s.t1busy = false → o.toNat < 4089 → s.apdu.readN 0 o.toNat = none →
    exec (.t1Transact pcb o e) s = .next (s.raise (.unwritten .apdu 0 o.toNat)) ∧
    exec (.anyPcb pcb o e) s = .next (s.raise (.unwritten .apdu 0 o.toNat)) ∧
    exec (.ctrlReset o e) s = .next (s.raise (.unwritten .apdu 0 o.toNat)) ∧
    exec (.t1TransactApdu o e) s = .next (s.raise (.unwritten .apdu 0 o.toNat)) ∧
    (s.seq = false → exec (.iBlockNs0 o e) s = .next (s.raise (.unwritten .apdu 0 o.toNat))) ∧
    (s.seq = true → exec (.iBlockNs1 o e) s = .next (s.raise (.unwritten .apdu 0 o.toNat)))

/-- R142: the payload is read back out of the frame a start built, by the frame's own LEN field. -/
def Obligations.FrameRoundTrip : Prop :=
  ∀ (pcb : Byte) (o e : Half) (s : State) (data : List Byte), s.t1busy = false → o.toNat < 4089 →
    s.apdu.readN 0 o.toNat = some data → (0 < o.toNat ∨ e = 0) →
    ∃ t hi lo, exec (.t1Transact pcb o e) s = .next t ∧ t.txf.read 2 = some hi ∧ t.txf.read 3 = some lo ∧
      t.txf.readN 4 (be16 hi lo).toNat = some data

/-- R129: `SEQ` is written only at the start of a transaction: no phase outcome and no other operation changes it, nor
does a T1_TRANSACT whose PCB is not `PCB_RESET`. -/
def Obligations.OnlyStartsWriteSeq : Prop :=
  ∀ (i : Instr) (s t : State), exec i s = .next t →
    (isStart i = false → t.seq = s.seq) ∧
    (∀ pcb o e, i = .t1Transact pcb o e ∨ i = .anyPcb pcb o e → pcb ≠ Config.params.pcbReset → t.seq = s.seq)

/-- R141: between two `T1TransactApdu` calls with no other I-block and no `PCB_RESET` transaction between them the PCB's
sequence bit alternates, whatever else runs between; the first call after a `PCB_RESET` transaction carries 0. -/
def Obligations.SequenceBitAlternates : Prop :=
  ∀ (n₂ e₂ : Half) (is : List Instr) (s t u v : State),
    (∀ i ∈ is, isIBlock i = false ∧ isPcbReset i = false) → execAll is t = some u →
    exec (.t1TransactApdu n₂ e₂) u = .next v → v.fault = none →
    (∀ n₁ e₁, exec (.t1TransactApdu n₁ e₁) s = .next t → t.fault = none →
      (t.t1pcb = 0x00 ∧ v.t1pcb = Config.seqMask) ∨ (t.t1pcb = Config.seqMask ∧ v.t1pcb = 0x00)) ∧
    (∀ r, isPcbReset r = true → exec r s = .next t → t.fault = none → v.t1pcb = 0x00)

/-! ### The phases of a transaction (R117 to R130) -/

/-- R117, R118, R119, R126: one attempt of the write phase offers the whole frame; status 0 enters the header phase, any
other status is followed by the next attempt or, at the `N_ATTEMPTS`-th, ends the transaction with result 0, the
generic-error bytes in `APDU` and no read. -/
def Obligations.WriteAttempt : Prop :=
  ∀ (s s₁ : State) (f : List Byte) (st : Int) (rest : List Int),
    s.t1state = .write → s.txfLen.toNat ≤ 4094 → s.txf.readN 0 s.txfLen.toNat = some f → s.i2cWr = st :: rest →
    s₁ = { s with i2cWr := rest, log := s.log ++ [.i2cWrite Config.params.seAddr f st] } →
    (st = 0 → exec .t1WriteAttempt s = .next { s₁ with attempt := 1, t1state := .rdhdr }) ∧
    (st ≠ 0 → s.attempt < Config.params.nAttempts → exec .t1WriteAttempt s = .next (retried s₁)) ∧
    (st ≠ 0 → Config.params.nAttempts ≤ s.attempt → ∃ apdu,
      exec .t1WriteAttempt s = .next (ended 0 { s₁ with apdu := apdu }) ∧
      ∀ a, apdu.read a = (bytesAt 0 Config.params.genericErr a).or (s.apdu.read a))

/-- R120, R122, R123: one attempt of the header phase. A whole header is kept and ends the transaction with 0 when no
payload was requested, with −2 when the body does not fit `APDU`, and enters the body phase otherwise; a short read is a
failed attempt and its bytes are discarded. -/
def Obligations.HeaderAttempt : Prop :=
  ∀ (s s₁ : State) (r : List Byte) (rest : List (List Byte)),
    s.t1state = .rdhdr → s.i2cRd = r :: rest →
    s₁ = { s with i2cRd := rest, log := s.log ++ [.i2cRead Config.params.seAddr 4 r] } →
    (∀ nad pcb hi lo s₂, r = [nad, pcb, hi, lo] → s₂ = { s₁ with rxHdr := ⟨nad, pcb, hi, lo⟩, rxDecl := be16 hi lo } →
      (s.t1explen = 0 → exec .t1RdhdrAttempt s = .next (ended 0 s₂)) ∧
      (s.t1explen ≠ 0 → Config.params.apduCap < (be16 hi lo).toNat + 2 →
        exec .t1RdhdrAttempt s = .next (ended 0xFFFFFFFE s₂)) ∧
      (s.t1explen ≠ 0 → (be16 hi lo).toNat + 2 ≤ Config.params.apduCap →
        exec .t1RdhdrAttempt s = .next { s₂ with attempt := 1, t1state := .rdbody })) ∧
    (r.length < 4 → s.attempt < Config.params.nAttempts → exec .t1RdhdrAttempt s = .next (retried s₁)) ∧
    (r.length < 4 → Config.params.nAttempts ≤ s.attempt → ∃ apdu,
      exec .t1RdhdrAttempt s = .next (ended 0 { s₁ with apdu := apdu }) ∧
      ∀ a, apdu.read a = (bytesAt 0 Config.params.genericErr a).or (s.apdu.read a))

/-- R124, R125: one attempt of the body phase. `RX_DECL + 2` bytes go to `APDU[0..)`, unverified, with the result
`RX_DECL`; a short read is a failed attempt and its bytes are discarded. -/
def Obligations.BodyAttempt : Prop :=
  ∀ (s s₁ : State) (r : List Byte) (rest : List (List Byte)),
    s.t1state = .rdbody → s.rxDecl.toNat + 2 ≤ Config.params.apduCap → s.i2cRd = r :: rest →
    s₁ = { s with i2cRd := rest, log := s.log ++ [.i2cRead Config.params.seAddr (s.rxDecl.toNat + 2) r] } →
    (r.length = s.rxDecl.toNat + 2 → ∃ apdu,
      exec .t1RdbodyAttempt s = .next (ended (BitVec.ofNat 32 s.rxDecl.toNat) { s₁ with apdu := apdu }) ∧
      ∀ a, apdu.read a = (bytesAt 0 r a).or (s.apdu.read a)) ∧
    (r.length < s.rxDecl.toNat + 2 → s.attempt < Config.params.nAttempts →
      exec .t1RdbodyAttempt s = .next (retried s₁)) ∧
    (r.length < s.rxDecl.toNat + 2 → Config.params.nAttempts ≤ s.attempt → ∃ apdu,
      exec .t1RdbodyAttempt s = .next (ended 0 { s₁ with apdu := apdu }) ∧
      ∀ a, apdu.read a = (bytesAt 0 Config.params.genericErr a).or (s.apdu.read a))

/-- R130: a started transaction, while I2C answers are there, completes after at most `3·N_ATTEMPTS` further steps of the
engine, unless an answer breaks the port's contract. -/
def Obligations.TransactionCompletes : Prop :=
  ∀ (i : Instr) (s t : State) (ts : List Turn), Inv s → isStart i = true → s.fault = none →
    exec i s = .next t → t.fault = none →
    t.sched = List.replicate (3 * Config.params.nAttempts) .engine ++ ts →
    Config.params.nAttempts ≤ t.i2cWr.length → 2 * Config.params.nAttempts ≤ t.i2cRd.length →
    ∃ k u, k ≤ 3 * Config.params.nAttempts ∧ run k t = some u ∧
      ((u.t1busy = false ∧ u.t1state = .idle ∧ u.fault = none) ∨ u.fault = some (.portContract .i2c))

/-! ### The reassembler (42_reassembler.md) -/

/-- R155, R157: a complete message of `B = 10 + L` bytes at the front of `RXB` goes to `MSG[0..B)` without a read, the
bytes beyond it to the front of `RXB`, and the dispatcher's turn begins; every other byte stays. -/
def Obligations.ReassembleYields : Prop :=
  ∀ (s : State) (t l0 l1 l2 l3 : Byte) (tail : List Byte), s.fstate = .await → s.fill ≤ Config.params.rxCap →
    s.rxb.readN 0 s.fill = some (t :: l0 :: l1 :: l2 :: l3 :: tail) →
    (le32 l0 l1 l2 l3).toNat ≤ 1024 → 10 + (le32 l0 l1 l2 l3).toNat ≤ s.fill →
    ∃ rxb msg,
      exec .reassemble s = .next { s with
        rxb := rxb, msg := msg, fill := s.fill - (10 + (le32 l0 l1 l2 l3).toNat), fstate := .build } ∧
      (∀ a, msg.read a = if a < 10 + (le32 l0 l1 l2 l3).toNat then s.rxb.read a else s.msg.read a) ∧
      (∀ a, rxb.read a = if a < s.fill - (10 + (le32 l0 l1 l2 l3).toNat)
        then s.rxb.read (10 + (le32 l0 l1 l2 l3).toNat + a) else s.rxb.read a)

/-- R156: a header whose length is above 1024 discards every buffered byte and sets `FRAMING_ERR`; no response is
sent, nothing else changes. -/
def Obligations.ReassembleDiscards : Prop :=
  ∀ (s : State) (l0 l1 l2 l3 : Byte), s.fstate = .await → 10 ≤ s.fill →
    s.rxb.readN 1 4 = some [l0, l1, l2, l3] → 1024 < (le32 l0 l1 l2 l3).toNat →
    exec .reassemble s = .next { s with fill := 0, framingErr := true }

/-- R152, R151: with fewer than 10 bytes, or with a header whose message is not complete, the step is a read of at most
the free space of `RXB`, which is at least 1: it holds while there is no answer (log 2), and an answer within the port's
range is appended to `RXB`. -/
def Obligations.ReassembleReads : Prop :=
  ∀ s : State, s.fstate = .await →
    (s.fill < 10 ∨ ∃ l0 l1 l2 l3, s.rxb.readN 1 4 = some [l0, l1, l2, l3] ∧ (le32 l0 l1 l2 l3).toNat ≤ 1024 ∧
      s.fill < 10 + (le32 l0 l1 l2 l3).toNat) →
    1 ≤ Config.params.rxCap - s.fill ∧
    (s.usbRx = [] → exec .reassemble s = .next s) ∧
    ∀ (c : List Byte) (rest : List (List Byte)), s.usbRx = c :: rest → 1 ≤ c.length →
      c.length ≤ Config.params.rxCap - s.fill → ∃ rxb,
        exec .reassemble s = .next { s with
          rxb := rxb, fill := s.fill + c.length, usbRx := rest
          log := s.log ++ [.usbRead (Config.params.rxCap - s.fill) c] } ∧
        ∀ a, rxb.read a = (bytesAt s.fill c a).or (s.rxb.read a)

/-- R159: exactly the bytes of one message, split into reads in any way, are yielded as that one message, after the last
of them and not before, and `FILL` is 0 again. -/
def Obligations.ChunkSizeIndependence : Prop :=
  ∀ (s : State) (chunks rest : List (List Byte)) (t l0 l1 l2 l3 : Byte) (tail : List Byte),
    s.fstate = .await → s.fill = 0 → s.fault = none → (∀ c ∈ chunks, c ≠ []) →
    chunks.flatten = t :: l0 :: l1 :: l2 :: l3 :: tail →
    (le32 l0 l1 l2 l3).toNat ≤ 1024 → chunks.flatten.length = 10 + (le32 l0 l1 l2 l3).toNat →
    s.usbRx = chunks ++ rest →
    (∀ k ≤ chunks.length, ∃ u, execAll (List.replicate k .reassemble) s = some u ∧
      u.fstate = .await ∧ u.fault = none ∧ u.msg = s.msg) ∧
    ∃ u, execAll (List.replicate (chunks.length + 1) .reassemble) s = some u ∧
      u.fstate = .build ∧ u.fill = 0 ∧ u.fault = none ∧ u.usbRx = rest ∧
      u.msg.readN 0 chunks.flatten.length = some chunks.flatten

/-! ### The dispatcher (43_dispatcher.md) -/

/-- R171: in BUILD, DISPATCH does what the command does that the whole byte `MSG[0]` selects (for any copy `m` of the
message's fields: the rules read the message in `MSG`), and completes when the header stands in `MSG`. -/
def Obligations.DispatchRunsTheCommand : Prop :=
  ∀ (s : State) (t : Byte) (m : CcidCommand), s.fstate = .build → s.msg.read 0 = some t →
    exec .dispatch s = exec
      (if t = Config.cmdPowerOn then .powerOn m
        else if t = Config.cmdPowerOff then .powerOff m
        else if t = Config.cmdGetSlotStatus then .getSlotStatus m
        else if t = Config.cmdXfrBlock then .xfrBlock m
        else if t = Config.cmdGetParameters then .getParameters m
        else if t = Config.cmdResetParameters then .resetParameters m
        else if t = Config.cmdSetParameters then .setParameters m
        else .unknown t m) s ∧
    ((∀ a < 10, (s.msg.read a).isSome) → ∃ u, exec .dispatch s = .next u ∧ u.fault = s.fault ∧
      u.fstate = if t = Config.cmdXfrBlock then .process else .flush)

/-- R174, R175: POWER_ON writes the data-block header of length 4 with 0/0/0 and the fixed ATR-like payload; every other
byte of `MSG` and every other register stays. -/
def Obligations.PowerOnResult : Prop :=
  ∀ (m : CcidCommand) (s : State), s.fstate = .build → ∃ msg,
    exec (.powerOn m) s = .next (answered 4 msg s) ∧
    ∀ a, msg.read a = ((headerByte Config.rspDataBlock 4 0x00 0x00 0x00 a).or
      (bytesAt 10 [0x3B, 0x80, 0x01, 0x81] a)).or (s.msg.read a)

/-- R176, R177: POWER_OFF and GET_SLOT_STATUS write the slot-status header of length 0 with 0/0/0 and nothing else. -/
def Obligations.SlotStatusResults : Prop :=
  ∀ (m : CcidCommand) (s : State), s.fstate = .build → ∃ msg,
    exec (.powerOff m) s = .next (answered 0 msg s) ∧
    exec (.getSlotStatus m) s = .next (answered 0 msg s) ∧
    ∀ a, msg.read a = (headerByte Config.rspSlotStatus 0 0x00 0x00 0x00 a).or (s.msg.read a)

/-- R181, R182, R183: the three parameter commands write the parameters header of length 0 with 0/0/0x01 and nothing
else. -/
def Obligations.ParametersResults : Prop :=
  ∀ (m : CcidCommand) (s : State), s.fstate = .build → ∃ msg,
    exec (.getParameters m) s = .next (answered 0 msg s) ∧
    exec (.resetParameters m) s = .next (answered 0 msg s) ∧
    exec (.setParameters m) s = .next (answered 0 msg s) ∧
    ∀ a, msg.read a = (headerByte Config.rspParameters 0 0x00 0x00 0x01 a).or (s.msg.read a)

/-- R184: UNKNOWN writes the slot-status header of length 0 with 0x40/0/0 and nothing else, whatever the type byte. -/
def Obligations.UnknownResult : Prop :=
  ∀ (t : Byte) (m : CcidCommand) (s : State), s.fstate = .build → ∃ msg,
    exec (.unknown t m) s = .next (answered 0 msg s) ∧
    ∀ a, msg.read a = (headerByte Config.rspSlotStatus 0 0x40 0x00 0x00 a).or (s.msg.read a)

/-- R178: XFR_BLOCK issues `Process(len)` with the message's length field and waits in PROCESS; nothing else
changes. -/
def Obligations.XfrBlockStarts : Prop :=
  ∀ (m : CcidCommand) (s : State) (l0 l1 l2 l3 : Byte), s.fstate = .build →
    s.msg.readN 1 4 = some [l0, l1, l2, l3] →
    exec (.xfrBlock m) s = .next { s with fstate := .process, log := s.log ++ [.process (le32 l0 l1 l2 l3)] }

/-- R179, R205: the answer `rv ≥ 0` gives a data-block of `rv` bytes with 0/0/0 whose payload is what the processor left
in `MSG`; an answer above `MSG_PAYLOAD_CAP` raises `ProcOverrun`. -/
def Obligations.AnswerOkResult : Prop :=
  ∀ (rv : Word) (s : State), s.fstate = .process → 0 ≤ rv.toInt →
    (rv.toInt ≤ Config.params.msgPayloadCap → ∃ msg,
      exec (.xfrBlockAnswerOk rv) s = .next (answered rv msg s) ∧
      ∀ a, msg.read a = (headerByte Config.rspDataBlock rv 0x00 0x00 0x00 a).or (s.msg.read a)) ∧
    ((Config.params.msgPayloadCap : Int) < rv.toInt →
      exec (.xfrBlockAnswerOk rv) s = .next (s.raise (.procOverrun rv)))

/-- R180, R185: the answer `rv < 0` gives an empty data-block with status 0x40 and the error byte `(−rv) mod 256`. -/
def Obligations.AnswerFailResult : Prop :=
  ∀ (rv : Word) (s : State), s.fstate = .process → rv.toInt < 0 → ∃ msg,
    exec (.xfrBlockAnswerFail rv) s = .next (answered 0 msg s) ∧
    ∀ a, msg.read a = (headerByte Config.rspDataBlock 0 0x40 (BitVec.ofNat 8 ((-rv.toInt) % 256).toNat) 0x00 a).or
      (s.msg.read a)

/-- R172: the three response rows, taken alone in BUILD (log 22), write the header and the flush's registers, slot and seq stay as the command
left them. -/
def Obligations.ResponseRowsResult : Prop :=
  ∀ (r : CcidResponse) (s : State), s.fstate = .build → ∃ m80 m81 m82,
    exec (.rspDataBlock r) s = .next (answered r.len m80 s) ∧
    exec (.rspSlotStatus r) s = .next (answered r.len m81 s) ∧
    exec (.rspParameters r) s = .next (answered r.len m82 s) ∧
    ∀ a,
      m80.read a = (headerByte Config.rspDataBlock r.len r.status r.error r.param a).or (s.msg.read a) ∧
      m81.read a = (headerByte Config.rspSlotStatus r.len r.status r.error r.param a).or (s.msg.read a) ∧
      m82.read a = (headerByte Config.rspParameters r.len r.status r.error r.param a).or (s.msg.read a)

/-- R187: from the yield to the end of the flush, `MSG[5]` and `MSG[6]` still hold the command's slot and seq, whoever
moves. -/
def Obligations.SlotAndSeqAreEchoed : Prop :=
  ∀ s t : State, step s = .next t → s.fstate ≠ .await →
    t.msg.read 5 = s.msg.read 5 ∧ t.msg.read 6 = s.msg.read 6

/-- R186: no command changes state that a later command reads: a command in BUILD changes only `MSG`, `RSP_LEN`, `FOFF`
and `FSTATE`, and the record of the `Process` request. -/
def Obligations.CommandsKeepNoState : Prop :=
  ∀ s t : State, exec .dispatch s = .next t → t.fault = s.fault →
    t = { s with msg := t.msg, rspLen := t.rspLen, foff := t.foff, fstate := t.fstate, log := t.log } ∧
    (t.log = s.log ∨ ∃ len, t.log = s.log ++ [.process len])

/-- R190, R192: a chunk of `min(USB_MAX_WRITE, RSP_LEN − FOFF)` bytes from `MSG[FOFF]` on is offered; the accepted bytes
are counted, a nonzero count sets `TX_INFLIGHT`, and when every byte is accepted the dispatcher is in AWAIT again. -/
def Obligations.FlushChunkResult : Prop :=
  ∀ (s : State) (k a : Nat) (chunk : List Byte) (rest : List Nat), s.fstate = .flush → s.txInflight = false →
    k = min Config.params.usbMaxWrite (s.rspLen - s.foff) → s.foff + k ≤ 10 + Config.params.msgPayloadCap →
    s.msg.readN s.foff k = some chunk → s.usbTx = a :: rest → a ≤ k →
    exec .flushChunk s = .next { s with
      usbTx := rest, log := s.log ++ [.usbWrite chunk a], txInflight := decide (0 < a), foff := s.foff + a
      fstate := if s.foff + a = s.rspLen then .await else .flush }

/-- R191: while a chunk is in flight no other is submitted, and only the TX-complete event ends that. -/
def Obligations.OneChunkInFlight : Prop :=
  ∀ (i : Instr) (s t : State), exec i s = .next t → s.txInflight = true →
    sentBytes t.log = sentBytes s.log ∧ (∀ c a, .usbWrite c a ∈ t.log → .usbWrite c a ∈ s.log) ∧
    (t.txInflight = false → i = .txComplete)

/-- R213, R206: the TX-complete event clears `TX_INFLIGHT` and nothing else; while it is 0 it breaks the contract. -/
def Obligations.TxCompleteResult : Prop :=
  ∀ s : State,
    (s.txInflight = true → exec .txComplete s = .next { s with txInflight := false }) ∧
    (s.txInflight = false → exec .txComplete s = .next (s.raise (.portContract .usbTx)))

/-- R58: over any run through one flush, whoever moves between the chunks, the bytes that left are the response's first
`FOFF` bytes in order, each once, and all of them when the dispatcher is in AWAIT again. -/
def Obligations.ResponseLeavesInOrder : Prop :=
  ∀ (n : Nat) (s t : State) (rsp : List Byte), s.fstate = .flush → s.foff = 0 → 0 < s.rspLen →
    s.msg.readN 0 s.rspLen = some rsp →
    (∀ k < n, ∀ u, run k s = some u → u.fstate = .flush) → run n s = some t →
    sentBytes t.log = sentBytes s.log ++ rsp.take t.foff ∧ (t.fstate = .await → t.foff = s.rspLen)

/-- R170, R171, R178, R215: no transition of `FSTATE` but those of the state machine: a transfer-block goes through
PROCESS, every other message straight to FLUSH, and PROCESS ends only by the processor's answer. -/
def Obligations.FramerTransitions : Prop :=
  ∀ s t : State, step s = .next t →
    t.fstate = s.fstate ∨ (s.fstate = .await ∧ t.fstate = .build) ∨
    (s.fstate = .build ∧ t.fstate = .process ∧ s.msg.read 0 = some Config.cmdXfrBlock) ∨
    (s.fstate = .build ∧ t.fstate = .flush ∧ s.msg.read 0 ≠ some Config.cmdXfrBlock) ∨
    (s.fstate = .process ∧ t.fstate = .flush ∧ ∃ i ts, isProcessorAnswer i = true ∧ s.sched = .request i :: ts) ∨
    (s.fstate = .flush ∧ t.fstate = .await)

/-! ### Whole-machine rules -/

/-- R28: `FRAMING_ERR` is 0 after reset, is set only by a discard in AWAIT, which a whole header in `RXB` with a length
above 1024 causes, and no step clears it. -/
def Obligations.FramingErrIsSticky : Prop :=
  State.reset.framingErr = false ∧ ∀ s t : State, step s = .next t →
    (s.framingErr = true → t.framingErr = true) ∧
    (s.framingErr = false → t.framingErr = true → s.fstate = .await ∧ 10 ≤ s.fill ∧ t.fill = 0 ∧
      ∃ l0 l1 l2 l3, s.rxb.readN 1 4 = some [l0, l1, l2, l3] ∧ 1024 < (le32 l0 l1 l2 l3).toNat)

/-- R50, R215: which operations reach which buffer: `RXB` only REASSEMBLE in AWAIT; `MSG` REASSEMBLE in AWAIT, in BUILD an
operation that answers the message, in PROCESS the processor's answer; `APDU` an attempt while a phase runs; `TXF` a
start. -/
def Obligations.BufferReach : Prop :=
  ∀ (i : Instr) (s t : State), exec i s = .next t →
    (t.rxb ≠ s.rxb → i = .reassemble ∧ s.fstate = .await) ∧
    (t.msg ≠ s.msg → (i = .reassemble ∧ s.fstate = .await) ∨ (answersInBuild i = true ∧ s.fstate = .build) ∨
      (isProcessorAnswer i = true ∧ s.fstate = .process)) ∧
    (t.apdu ≠ s.apdu → s.t1state ≠ .idle ∧ (i = .t1WriteAttempt ∨ i = .t1RdhdrAttempt ∨ i = .t1RdbodyAttempt)) ∧
    (t.txf ≠ s.txf → isStart i = true ∧ s.t1busy = false)

/-- R206: every port answer outside its stated range, and every event without its request, raises `PortContract` and
changes nothing else. -/
def Obligations.PortContractBreaches : Prop :=
  ∀ s : State,
    (∀ c rest, s.fstate = .await →
      (s.fill < 10 ∨ ∃ l0 l1 l2 l3, s.rxb.readN 1 4 = some [l0, l1, l2, l3] ∧ (le32 l0 l1 l2 l3).toNat ≤ 1024 ∧
        s.fill < 10 + (le32 l0 l1 l2 l3).toNat) →
      s.usbRx = c :: rest → (c.length = 0 ∨ Config.params.rxCap - s.fill < c.length) →
      exec .reassemble s = .next (s.raise (.portContract .usbRx))) ∧
    (∀ chunk a rest, s.fstate = .flush → s.txInflight = false → s.usbTx = a :: rest →
      memRead Config.params .msg s.foff (chunkSize Config.params s) s = .ok chunk →
      min Config.params.usbMaxWrite (s.rspLen - s.foff) < a →
      exec .flushChunk s = .next (s.raise (.portContract .usbTx))) ∧
    (∀ r rest, s.t1state = .rdhdr → s.i2cRd = r :: rest → 4 < r.length →
      exec .t1RdhdrAttempt s = .next (s.raise (.portContract .i2c))) ∧
    (∀ r rest, s.t1state = .rdbody → s.i2cRd = r :: rest → s.rxDecl.toNat + 2 < r.length →
      exec .t1RdbodyAttempt s = .next (s.raise (.portContract .i2c))) ∧
    (s.txInflight = false → exec .txComplete s = .next (s.raise (.portContract .usbTx))) ∧
    (∀ rv, s.fstate ≠ .process → exec (.xfrBlockAnswerOk rv) s = .next (s.raise (.portContract .process)) ∧
      exec (.xfrBlockAnswerFail rv) s = .next (s.raise (.portContract .process)))

/-- R64, R209: the caller writes `APDU` while `T1_BUSY = 0` and nothing else changes; while it is 1 the write raises
`T1CallerWrite`. A write beyond `APDU` is an access outside the buffer (R14, R208) and raises `BufferBounds` with nothing
written (DEDUCED, log 29). -/
def Obligations.CallerWrites : Prop :=
  ∀ (s : State) (ts : List Turn) (off : Nat) (bs : List Byte), s.fault = none →
    s.sched = .callerWrite off bs :: ts →
    (s.t1busy = false → off + bs.length ≤ Config.params.apduCap → ∃ apdu,
      step s = .next { s with sched := ts, apdu := apdu } ∧
      ∀ a, apdu.read a = (bytesAt off bs a).or (s.apdu.read a)) ∧
    (s.t1busy = false → Config.params.apduCap < off + bs.length →
      step s = .next { s with sched := ts, fault := some (.bufferBounds .apdu off bs.length) }) ∧
    (s.t1busy = true → step s = .next { s with sched := ts, fault := some .t1CallerWrite })

/-- R62: the processor writes `MSG[10..)` while `FSTATE = PROCESS` and nothing else changes; at another time the write
breaks the contract (DESIGN CHOICE, log 8). A write beyond `MSG` is an access outside the buffer (R14, R208) and raises
`BufferBounds` with nothing written (DEDUCED, log 29). -/
def Obligations.ProcessorWrites : Prop :=
  ∀ (s : State) (ts : List Turn) (off : Nat) (bs : List Byte), s.fault = none →
    s.sched = .processorWrite off bs :: ts →
    (s.fstate = .process → off + bs.length ≤ Config.params.msgPayloadCap → ∃ msg,
      step s = .next { s with sched := ts, msg := msg } ∧
      ∀ a, msg.read a = (bytesAt (10 + off) bs a).or (s.msg.read a)) ∧
    (s.fstate = .process → Config.params.msgPayloadCap < off + bs.length →
      step s = .next { s with sched := ts, fault := some (.bufferBounds .msg (10 + off) bs.length) }) ∧
    (s.fstate ≠ .process → step s = .next { s with sched := ts, fault := some (.portContract .process) })

/-- R15, R111, R140, R151, R171, R179, R180, R190 (log 5; the response rows log 22, the I-block rows log 21): an operation
that is not enabled is not taken: the state stays as it is. -/
def Obligations.DisabledOperationsChangeNothing : Prop :=
  ∀ (s : State) (i : Instr),
    (s.fstate ≠ .await → i = .reassemble → exec i s = .next s) ∧
    (s.fstate ≠ .build → (i = .dispatch ∨ ∃ t m, i = .powerOn m ∨ i = .powerOff m ∨ i = .getSlotStatus m ∨
      i = .xfrBlock m ∨ i = .getParameters m ∨ i = .resetParameters m ∨ i = .setParameters m ∨ i = .unknown t m) →
      exec i s = .next s) ∧
    (∀ r, s.fstate ≠ .build → (i = .rspDataBlock r ∨ i = .rspSlotStatus r ∨ i = .rspParameters r) →
      exec i s = .next s) ∧
    (∀ rv, s.fstate = .process →
      ((rv.toInt < 0 ∧ i = .xfrBlockAnswerOk rv) ∨ (0 ≤ rv.toInt ∧ i = .xfrBlockAnswerFail rv)) →
      exec i s = .next s) ∧
    (s.fstate ≠ .flush ∨ s.txInflight = true → i = .flushChunk → exec i s = .next s) ∧
    (s.t1state ≠ .write → i = .t1WriteAttempt → exec i s = .next s) ∧
    (s.t1state ≠ .rdhdr → i = .t1RdhdrAttempt → exec i s = .next s) ∧
    (s.t1state ≠ .rdbody → i = .t1RdbodyAttempt → exec i s = .next s) ∧
    (∀ o e, s.t1busy = false → s.seq = true → i = .iBlockNs0 o e → exec i s = .next s) ∧
    (∀ o e, s.t1busy = false → s.seq = false → i = .iBlockNs1 o e → exec i s = .next s)

/-- R61, R63 (log 2): a port request without an answer holds: the state stays as it is. -/
def Obligations.RequestsHold : Prop :=
  ∀ s : State, Inv s →
    (∀ chunk, s.fstate = .flush → s.usbTx = [] →
      s.msg.readN s.foff (min Config.params.usbMaxWrite (s.rspLen - s.foff)) = some chunk →
      exec .flushChunk s = .next s) ∧
    (s.t1state = .write → s.i2cWr = [] → exec .t1WriteAttempt s = .next s) ∧
    (s.t1state = .rdhdr → s.i2cRd = [] → exec .t1RdhdrAttempt s = .next s) ∧
    (s.t1state = .rdbody → s.i2cRd = [] → exec .t1RdbodyAttempt s = .next s)

/-- The block's invariant is kept by every step, from every state that meets it. -/
def Obligations.InvIsKept : Prop :=
  ∀ s t : State, Inv s → step s = .next t → Inv t

/-- The block's invariant holds after reset. -/
def Obligations.InvAtReset : Prop := Inv State.reset

/-- R50: from every state, a step keeps the buffers in canonical form and within their capacities. -/
def Obligations.BuffersAreKept : Prop :=
  ∀ s t : State, BuffersOk s → step s = .next t → BuffersOk t

/-- R208: no operation of the block reaches `BufferBounds`. -/
def Obligations.NoBufferBounds : Prop :=
  ∀ (i : Instr) (s t : State), Inv s → s.fault = none → exec i s = .next t →
    ∀ b a n, t.fault ≠ some (.bufferBounds b a n)

/-- R230: the steps the block takes by itself in AWAIT, BUILD and the phases of a transaction read no unwritten byte: they
raise nothing but a breach of a port's contract. -/
def Obligations.OwnStepsReadWrittenBytes : Prop :=
  ∀ (i : Instr) (s t : State), Inv s → s.fault = none →
    (engineOp s = some i ∨ (s.fstate ≠ .flush ∧ framerOp s = some i)) → exec i s = .next t →
    t.fault = none ∨ ∃ port, t.fault = some (.portContract port)

/-- R230: the registers after reset, and buffers that hold no value, so that reading one of their bytes faults. -/
def Obligations.ResetState : Prop :=
  State.reset.fstate = .await ∧ State.reset.fill = 0 ∧ State.reset.rspLen = 0 ∧ State.reset.foff = 0 ∧
  State.reset.txInflight = false ∧ State.reset.framingErr = false ∧ State.reset.seq = false ∧
  State.reset.t1state = .idle ∧ State.reset.attempt = 0 ∧ State.reset.t1pcb = 0 ∧ State.reset.t1outlen = 0 ∧
  State.reset.t1explen = 0 ∧ State.reset.txfLen = 0 ∧ State.reset.rxHdr = ⟨0, 0, 0, 0⟩ ∧ State.reset.rxDecl = 0 ∧
  State.reset.t1result = 0 ∧ State.reset.t1busy = false ∧ State.reset.fault = none ∧
  ∀ (b : BufId) (a : Nat), (State.reset.buf b).read a = none ∧
    (a < capacity Config.params b → memRead Config.params b a 1 State.reset = .error (.unwritten b a 1))

/-- R231: the first step after reset is REASSEMBLE, and it holds while no byte has arrived. Both rest on the model's own
fields at reset, an empty schedule and no pending answer (DESIGN CHOICE, log 14), and on the framer being the one that
moves while the engine is idle (DESIGN CHOICE, log 3); that an arriving byte lifts the hold is `ReassembleReads`. -/
def Obligations.FirstStepIsReassemble : Prop :=
  step State.reset = exec .reassemble State.reset ∧ step State.reset = .next State.reset

/-- R245: at the end of a run the block's own step changes nothing. -/
def Obligations.EndOfRunIsStable : Prop :=
  ∀ s : State, Inv s → EndOfRun s → s.sched = [] → step s = .next s

end
end

