-- ==== Sys2Proof/Laws/Config.lean ====
section
/-! SUPPORT. The parameters of the block meet the constraints of R10. -/

namespace Sys2Proof.Config

theorem pcbReset_ne_ns0 : pcbReset ≠ 0x00 := by
  have h := pcbResetIndex.isLt
  unfold pcbReset
  split <;> (intro hc; have := congrArg BitVec.toNat hc; simp at this; omega)

theorem pcbReset_ne_ns1 : pcbReset ≠ 0x40 := by
  have h := pcbResetIndex.isLt
  unfold pcbReset
  split <;> (intro hc; have := congrArg BitVec.toNat hc; simp at this; omega)

theorem rxCap_ge : 1034 ≤ rxCap := by unfold rxCap; exact Nat.le_add_left 1034 _
theorem msgPayloadCap_ge : 1024 ≤ msgPayloadCap := by unfold msgPayloadCap; exact Nat.le_add_left 1024 _
theorem apduCap_ge : 4090 ≤ apduCap := by unfold apduCap; exact Nat.le_add_left 4090 _
theorem usbMaxWrite_ge : 1 ≤ usbMaxWrite := by unfold usbMaxWrite; exact Nat.le_add_left 1 _
theorem nAttempts_ge : 1 ≤ nAttempts := by unfold nAttempts; exact Nat.le_add_left 1 _

/-- R10: every constraint of the parameter table. -/
theorem params_legal : params.Legal where
  rxCap := rxCap_ge
  msgPayloadCap := msgPayloadCap_ge
  apduCap := apduCap_ge
  usbMaxWrite := usbMaxWrite_ge
  pcbReset_ne_ns0 := pcbReset_ne_ns0
  pcbReset_ne_ns1 := pcbReset_ne_ns1
  nAttempts := nAttempts_ge
  genericErr := List.length_take_le apduCap genericErrBytes

end Sys2Proof.Config
end

