-- ==== Sys2Proof/Laws/Crc.lean ====
section
/-! SUPPORT. The CRC engine: the printed table is the construction (R101), and the checksum's shape. -/

namespace Sys2Proof.Machine

theorem crcTable_length : crcTable.length = 256 := by decide +kernel

/-- One row of the check of R101 that the printed table is the reflected construction. -/
theorem crcTable_eq_construction :
    crcTable = (List.range 256).map fun i => crcTableEntry (BitVec.ofNat 8 i) := by decide +kernel

/-- R101: every entry of the printed table is the construction's. -/
theorem crcLookup_eq (i : Byte) : crcLookup i = crcTableEntry i := by
  unfold crcLookup
  rw [crcTable_eq_construction, List.getD_eq_getElem?_getD, List.getElem?_map,
    List.getElem?_range (by have := i.isLt; omega)]
  simp

@[simp] theorem crc16_nil (seed : Half) : crc16 [] seed = seed := rfl

@[simp] theorem crc16_cons (b : Byte) (bs : List Byte) (seed : Half) :
    crc16 (b :: bs) seed = crc16 bs (crcUpdate seed b) := rfl

/-- The running seed of R102. -/
theorem crc16_append (a b : List Byte) (seed : Half) : crc16 (a ++ b) seed = crc16 b (crc16 a seed) :=
  List.foldl_append

@[simp] theorem frameCrc_length (f : List Byte) : (frameCrc f).length = 2 := rfl

end Sys2Proof.Machine
end

