-- ==== Sys2Proof/Laws/Decode.lean ====
section
/-! SUPPORT. Byte order and message decoding. -/

namespace Sys2Proof

@[simp] theorem le32bytes_length (v : Word) : (le32bytes v).length = 4 := rfl

/-- R13: `le32` and `le32bytes` are inverse. -/
theorem le32_le32bytes (v : Word) :
    le32 (v.extractLsb' 0 8) (v.extractLsb' 8 8) (v.extractLsb' 16 8) (v.extractLsb' 24 8) = v := by
  apply BitVec.eq_of_getLsbD_eq
  intro i hi
  simp only [le32, BitVec.getLsbD_append, BitVec.getLsbD_extractLsb']
  grind

/-- R13: `be16` and its bytes are inverse. -/
theorem be16_bytes (v : Half) : be16 (hiByte v) (loByte v) = v := by
  apply BitVec.eq_of_getLsbD_eq
  intro i hi
  simp only [be16, hiByte, loByte, BitVec.getLsbD_append, BitVec.getLsbD_extractLsb']
  grind

/-- R80: the eight rows, by the whole type byte. -/
theorem commandKind_unknown {t : Byte} : commandKind t = .unknown ↔ isCommandType t = false := by
  unfold commandKind isCommandType
  constructor
  · intro h
    repeat' split at h
    all_goals simp_all
  · intro h
    simp only [Bool.or_eq_false_iff, beq_eq_false_iff_ne] at h
    simp [h]

/-- Decoding the encoding of a message gives its type's operation back, and the bytes after it. -/
theorem decodeMessage_encodeMessage (t : Byte) {m : CcidCommand} (h : m.wf = true) (rest : List Byte) :
    decodeMessage (encodeMessage t m ++ rest) = .ok (commandOf t m, rest) := by
  have hl : m.payload.length ≤ 1024 := of_decide_eq_true h
  have hn : (BitVec.ofNat 32 m.payload.length).toNat = m.payload.length := by
    rw [BitVec.toNat_ofNat]; omega
  simp only [encodeMessage, le32bytes, List.cons_append, List.nil_append, decodeMessage, le32_le32bytes, hn]
  rw [if_neg (by simp only [Config.maxMsg]; omega), if_neg (by simp only [List.length_append]; omega)]
  simp

end Sys2Proof
end

