-- ==== Sys2Proof/Laws/Memory.lean ====
section
/-! SUPPORT. Buffers: what a read gives after a write, and that writing keeps the canonical form. -/

namespace Sys2Proof.Machine

open Sys2Proof.Safety (bytesAt)

@[simp] theorem Memory.read_nil (a : Nat) : Memory.read [] a = none := rfl

/-- One byte: the written address gives the value, every other address is as before. -/
theorem Memory.read_write (m : Memory) (a : Nat) (v : Byte) (x : Nat) :
    (m.write a v).read x = if x = a then some v else m.read x := by
  induction m with
  | nil => simp only [Memory.write, Memory.read]; grind
  | cons c m ih => obtain ⟨k, w⟩ := c; simp only [Memory.write]; grind [Memory.read]

theorem bytesAt_nil (base a : Nat) : bytesAt base [] a = none := by simp [bytesAt]

/-- A byte string: its bytes stand at its addresses, every other address is as before. -/
theorem Memory.read_writeN (m : Memory) (base : Nat) (bs : List Byte) (a : Nat) :
    (m.writeN base bs).read a = (bytesAt base bs a).or (m.read a) := by
  induction bs generalizing m base with
  | nil => simp [Memory.writeN, bytesAt_nil]
  | cons b bs ih =>
    simp only [Memory.writeN, ih, Memory.read_write, bytesAt]
    by_cases h1 : a = base
    · subst h1; simp [show ¬ a + 1 ≤ a by omega]
    · by_cases h2 : base + 1 ≤ a
      · have h3 : a - base = (a - (base + 1)) + 1 := by omega
        simp [h1, h2, show base ≤ a by omega, h3]
      · simp [h1, h2, show ¬ base ≤ a by omega]

theorem Memory.mem_write {m : Memory} {a : Nat} {v : Byte} {c : Host.Cell} (h : c ∈ m.write a v) :
    c = (a, v) ∨ c ∈ m := by
  induction m with
  | nil => simpa [Memory.write] using h
  | cons d m ih => obtain ⟨k, w⟩ := d; simp only [Memory.write] at h; grind

/-- A write keeps the canonical form. -/
theorem Memory.wf_write {m : Memory} (h : m.wf) (a : Nat) (v : Byte) : (m.write a v).wf := by
  induction m with
  | nil => simp [Memory.write, Memory.wf]
  | cons c m ih =>
    obtain ⟨k, w⟩ := c
    have hc := List.pairwise_cons.mp h
    simp only [Memory.write]
    split
    · rename_i hak
      exact List.pairwise_cons.mpr ⟨fun y hy => by
        rcases List.mem_cons.mp hy with rfl | hy
        · exact hak
        · exact Nat.lt_trans hak (hc.1 y hy), h⟩
    · split
      · rename_i hak; subst hak
        exact List.pairwise_cons.mpr ⟨hc.1, hc.2⟩
      · refine List.pairwise_cons.mpr ⟨fun y hy => ?_, ih hc.2⟩
        rcases Memory.mem_write hy with rfl | hy
        · simp only; omega
        · exact hc.1 y hy

/-- Writing a byte string keeps the canonical form. -/
theorem Memory.wf_writeN {m : Memory} (h : m.wf) (a : Nat) (bs : List Byte) : (m.writeN a bs).wf := by
  induction bs generalizing m a with
  | nil => exact h
  | cons b bs ih => exact ih (Memory.wf_write h a b) (a + 1)

/-- Every listed address after a write was listed before or is one of the written ones. -/
theorem Memory.mem_writeN {m : Memory} {a : Nat} {bs : List Byte} {c : Host.Cell} (h : c ∈ m.writeN a bs) :
    (a ≤ c.1 ∧ c.1 < a + bs.length) ∨ c ∈ m := by
  induction bs generalizing m a with
  | nil => exact .inr h
  | cons b bs ih =>
    rcases ih h with h | h
    · exact .inl (by simp only [List.length_cons]; omega)
    · rcases Memory.mem_write h with rfl | h
      · exact .inl (by simp)
      · exact .inr h

/-- `readN` is byte by byte: it gives `bs` exactly when `bs` has `n` bytes and each stands at its address. -/
theorem Memory.readN_eq_some {m : Memory} {a n : Nat} {bs : List Byte} :
    m.readN a n = some bs ↔ bs.length = n ∧ ∀ k (h : k < bs.length), m.read (a + k) = some bs[k] := by
  induction n generalizing a bs with
  | zero => cases bs <;> simp [Memory.readN]
  | succ n ih =>
    cases bs with
    | nil =>
      simp only [Memory.readN]
      split <;> simp
    | cons b bs =>
      simp only [Memory.readN]
      constructor
      · intro h
        split at h
        · rename_i b' bs' hb hbs
          obtain ⟨rfl, rfl⟩ : b' = b ∧ bs' = bs := by simpa using h
          obtain ⟨hl, hk⟩ := ih.mp hbs
          refine ⟨by simp [hl], fun k hk' => ?_⟩
          cases k with
          | zero => simpa using hb
          | succ k =>
            have := hk k (by simpa using hk')
            simpa [Nat.add_assoc, Nat.add_comm 1 k] using this
        · simp at h
      · rintro ⟨hl, hk⟩
        have h0 := hk 0 (by simp)
        have h1 : m.readN (a + 1) n = some bs := ih.mpr ⟨by simpa using hl, fun k hk' => by
          have := hk (k + 1) (by simpa using hk')
          simpa [Nat.add_assoc, Nat.add_comm 1 k] using this⟩
        simp only [Nat.add_zero, List.getElem_cons_zero] at h0
        simp [h0, h1]

theorem Memory.readN_length {m : Memory} {a n : Nat} {bs : List Byte} (h : m.readN a n = some bs) : bs.length = n :=
  (Memory.readN_eq_some.mp h).1

theorem Memory.readN_read {m : Memory} {a n : Nat} {bs : List Byte} (h : m.readN a n = some bs) {k : Nat}
    (hk : k < n) : m.read (a + k) = bs[k]? := by
  obtain ⟨hl, hr⟩ := Memory.readN_eq_some.mp h
  rw [hr k (by omega), List.getElem?_eq_getElem]

/-- Bytes just written read back. -/
theorem Memory.readN_writeN_same (m : Memory) (a : Nat) (bs : List Byte) :
    (m.writeN a bs).readN a bs.length = some bs :=
  Memory.readN_eq_some.mpr ⟨rfl, fun k hk => by simp [Memory.read_writeN, bytesAt, hk]⟩

/-- A range in which every byte holds a value can be read. -/
theorem Memory.readN_isSome {m : Memory} {a n : Nat} :
    (m.readN a n).isSome ↔ ∀ k < n, (m.read (a + k)).isSome := by
  induction n generalizing a with
  | zero => simp [Memory.readN]
  | succ n ih =>
    have hs : (m.readN a (n + 1)).isSome ↔ (m.read a).isSome ∧ (m.readN (a + 1) n).isSome := by
      simp only [Memory.readN]
      cases m.read a <;> cases m.readN (a + 1) n <;> simp
    rw [hs, ih]
    constructor
    · rintro ⟨h0, h1⟩ k hk
      cases k with
      | zero => exact h0
      | succ k => simpa [Nat.add_assoc, Nat.add_comm 1 k] using h1 k (by omega)
    · intro h
      refine ⟨by simpa using h 0 (by omega), fun k hk => ?_⟩
      simpa [Nat.add_assoc, Nat.add_comm 1 k] using h (k + 1) (by omega)

/-- Part of a range that can be read. -/
theorem Memory.readN_part {m : Memory} {n a k : Nat} {bs : List Byte} (h : m.readN 0 n = some bs) (hk : a + k ≤ n) :
    m.readN a k = some ((bs.drop a).take k) := by
  obtain ⟨hl, hr⟩ := Memory.readN_eq_some.mp h
  refine Memory.readN_eq_some.mpr ⟨by simp only [List.length_take, List.length_drop]; omega, fun j hj => ?_⟩
  simp only [List.length_take, List.length_drop] at hj
  simpa using hr (a + j) (by omega)

/-- A range in which every byte holds a value gives some bytes. -/
theorem Memory.exists_readN {m : Memory} {a n : Nat} (h : ∀ k < n, (m.read (a + k)).isSome) :
    ∃ bs, m.readN a n = some bs := Option.isSome_iff_exists.mp (Memory.readN_isSome.mpr h)

end Sys2Proof.Machine
end

