-- ==== Sys2Proof/Laws/State.lean ====
section
/-! SUPPORT. One lemma per field and named update of State, true by rfl, so that no later proof unfolds an update. -/

namespace Sys2Proof.Machine

variable (s : State)

/-! ### `State.record` -/

@[simp] theorem State.record_fstate (a : PortAct) : (s.record a).fstate = s.fstate := rfl
@[simp] theorem State.record_rxb (a : PortAct) : (s.record a).rxb = s.rxb := rfl
@[simp] theorem State.record_fill (a : PortAct) : (s.record a).fill = s.fill := rfl
@[simp] theorem State.record_msg (a : PortAct) : (s.record a).msg = s.msg := rfl
@[simp] theorem State.record_rspLen (a : PortAct) : (s.record a).rspLen = s.rspLen := rfl
@[simp] theorem State.record_foff (a : PortAct) : (s.record a).foff = s.foff := rfl
@[simp] theorem State.record_txInflight (a : PortAct) : (s.record a).txInflight = s.txInflight := rfl
@[simp] theorem State.record_framingErr (a : PortAct) : (s.record a).framingErr = s.framingErr := rfl
@[simp] theorem State.record_seq (a : PortAct) : (s.record a).seq = s.seq := rfl
@[simp] theorem State.record_t1state (a : PortAct) : (s.record a).t1state = s.t1state := rfl
@[simp] theorem State.record_attempt (a : PortAct) : (s.record a).attempt = s.attempt := rfl
@[simp] theorem State.record_t1pcb (a : PortAct) : (s.record a).t1pcb = s.t1pcb := rfl
@[simp] theorem State.record_t1outlen (a : PortAct) : (s.record a).t1outlen = s.t1outlen := rfl
@[simp] theorem State.record_t1explen (a : PortAct) : (s.record a).t1explen = s.t1explen := rfl
@[simp] theorem State.record_txf (a : PortAct) : (s.record a).txf = s.txf := rfl
@[simp] theorem State.record_txfLen (a : PortAct) : (s.record a).txfLen = s.txfLen := rfl
@[simp] theorem State.record_apdu (a : PortAct) : (s.record a).apdu = s.apdu := rfl
@[simp] theorem State.record_rxHdr (a : PortAct) : (s.record a).rxHdr = s.rxHdr := rfl
@[simp] theorem State.record_rxDecl (a : PortAct) : (s.record a).rxDecl = s.rxDecl := rfl
@[simp] theorem State.record_t1result (a : PortAct) : (s.record a).t1result = s.t1result := rfl
@[simp] theorem State.record_t1busy (a : PortAct) : (s.record a).t1busy = s.t1busy := rfl
@[simp] theorem State.record_fault (a : PortAct) : (s.record a).fault = s.fault := rfl
@[simp] theorem State.record_sched (a : PortAct) : (s.record a).sched = s.sched := rfl
@[simp] theorem State.record_usbRx (a : PortAct) : (s.record a).usbRx = s.usbRx := rfl
@[simp] theorem State.record_usbTx (a : PortAct) : (s.record a).usbTx = s.usbTx := rfl
@[simp] theorem State.record_i2cWr (a : PortAct) : (s.record a).i2cWr = s.i2cWr := rfl
@[simp] theorem State.record_i2cRd (a : PortAct) : (s.record a).i2cRd = s.i2cRd := rfl
@[simp] theorem State.record_log (a : PortAct) : (s.record a).log = s.log ++ [a] := rfl
@[simp] theorem State.record_choices (a : PortAct) : (s.record a).choices = s.choices := rfl

/-! ### `State.raise` -/

@[simp] theorem State.raise_fstate (f : Fault) : (s.raise f).fstate = s.fstate := rfl
@[simp] theorem State.raise_rxb (f : Fault) : (s.raise f).rxb = s.rxb := rfl
@[simp] theorem State.raise_fill (f : Fault) : (s.raise f).fill = s.fill := rfl
@[simp] theorem State.raise_msg (f : Fault) : (s.raise f).msg = s.msg := rfl
@[simp] theorem State.raise_rspLen (f : Fault) : (s.raise f).rspLen = s.rspLen := rfl
@[simp] theorem State.raise_foff (f : Fault) : (s.raise f).foff = s.foff := rfl
@[simp] theorem State.raise_txInflight (f : Fault) : (s.raise f).txInflight = s.txInflight := rfl
@[simp] theorem State.raise_framingErr (f : Fault) : (s.raise f).framingErr = s.framingErr := rfl
@[simp] theorem State.raise_seq (f : Fault) : (s.raise f).seq = s.seq := rfl
@[simp] theorem State.raise_t1state (f : Fault) : (s.raise f).t1state = s.t1state := rfl
@[simp] theorem State.raise_attempt (f : Fault) : (s.raise f).attempt = s.attempt := rfl
@[simp] theorem State.raise_t1pcb (f : Fault) : (s.raise f).t1pcb = s.t1pcb := rfl
@[simp] theorem State.raise_t1outlen (f : Fault) : (s.raise f).t1outlen = s.t1outlen := rfl
@[simp] theorem State.raise_t1explen (f : Fault) : (s.raise f).t1explen = s.t1explen := rfl
@[simp] theorem State.raise_txf (f : Fault) : (s.raise f).txf = s.txf := rfl
@[simp] theorem State.raise_txfLen (f : Fault) : (s.raise f).txfLen = s.txfLen := rfl
@[simp] theorem State.raise_apdu (f : Fault) : (s.raise f).apdu = s.apdu := rfl
@[simp] theorem State.raise_rxHdr (f : Fault) : (s.raise f).rxHdr = s.rxHdr := rfl
@[simp] theorem State.raise_rxDecl (f : Fault) : (s.raise f).rxDecl = s.rxDecl := rfl
@[simp] theorem State.raise_t1result (f : Fault) : (s.raise f).t1result = s.t1result := rfl
@[simp] theorem State.raise_t1busy (f : Fault) : (s.raise f).t1busy = s.t1busy := rfl
@[simp] theorem State.raise_fault (f : Fault) : (s.raise f).fault = some (s.fault.getD f) := rfl
@[simp] theorem State.raise_sched (f : Fault) : (s.raise f).sched = s.sched := rfl
@[simp] theorem State.raise_usbRx (f : Fault) : (s.raise f).usbRx = s.usbRx := rfl
@[simp] theorem State.raise_usbTx (f : Fault) : (s.raise f).usbTx = s.usbTx := rfl
@[simp] theorem State.raise_i2cWr (f : Fault) : (s.raise f).i2cWr = s.i2cWr := rfl
@[simp] theorem State.raise_i2cRd (f : Fault) : (s.raise f).i2cRd = s.i2cRd := rfl
@[simp] theorem State.raise_log (f : Fault) : (s.raise f).log = s.log := rfl
@[simp] theorem State.raise_choices (f : Fault) : (s.raise f).choices = s.choices := rfl

/-! ### `State.withSched` -/

@[simp] theorem State.withSched_fstate (ts : List Turn) : (s.withSched ts).fstate = s.fstate := rfl
@[simp] theorem State.withSched_rxb (ts : List Turn) : (s.withSched ts).rxb = s.rxb := rfl
@[simp] theorem State.withSched_fill (ts : List Turn) : (s.withSched ts).fill = s.fill := rfl
@[simp] theorem State.withSched_msg (ts : List Turn) : (s.withSched ts).msg = s.msg := rfl
@[simp] theorem State.withSched_rspLen (ts : List Turn) : (s.withSched ts).rspLen = s.rspLen := rfl
@[simp] theorem State.withSched_foff (ts : List Turn) : (s.withSched ts).foff = s.foff := rfl
@[simp] theorem State.withSched_txInflight (ts : List Turn) : (s.withSched ts).txInflight = s.txInflight := rfl
@[simp] theorem State.withSched_framingErr (ts : List Turn) : (s.withSched ts).framingErr = s.framingErr := rfl
@[simp] theorem State.withSched_seq (ts : List Turn) : (s.withSched ts).seq = s.seq := rfl
@[simp] theorem State.withSched_t1state (ts : List Turn) : (s.withSched ts).t1state = s.t1state := rfl
@[simp] theorem State.withSched_attempt (ts : List Turn) : (s.withSched ts).attempt = s.attempt := rfl
@[simp] theorem State.withSched_t1pcb (ts : List Turn) : (s.withSched ts).t1pcb = s.t1pcb := rfl
@[simp] theorem State.withSched_t1outlen (ts : List Turn) : (s.withSched ts).t1outlen = s.t1outlen := rfl
@[simp] theorem State.withSched_t1explen (ts : List Turn) : (s.withSched ts).t1explen = s.t1explen := rfl
@[simp] theorem State.withSched_txf (ts : List Turn) : (s.withSched ts).txf = s.txf := rfl
@[simp] theorem State.withSched_txfLen (ts : List Turn) : (s.withSched ts).txfLen = s.txfLen := rfl
@[simp] theorem State.withSched_apdu (ts : List Turn) : (s.withSched ts).apdu = s.apdu := rfl
@[simp] theorem State.withSched_rxHdr (ts : List Turn) : (s.withSched ts).rxHdr = s.rxHdr := rfl
@[simp] theorem State.withSched_rxDecl (ts : List Turn) : (s.withSched ts).rxDecl = s.rxDecl := rfl
@[simp] theorem State.withSched_t1result (ts : List Turn) : (s.withSched ts).t1result = s.t1result := rfl
@[simp] theorem State.withSched_t1busy (ts : List Turn) : (s.withSched ts).t1busy = s.t1busy := rfl
@[simp] theorem State.withSched_fault (ts : List Turn) : (s.withSched ts).fault = s.fault := rfl
@[simp] theorem State.withSched_sched (ts : List Turn) : (s.withSched ts).sched = ts := rfl
@[simp] theorem State.withSched_usbRx (ts : List Turn) : (s.withSched ts).usbRx = s.usbRx := rfl
@[simp] theorem State.withSched_usbTx (ts : List Turn) : (s.withSched ts).usbTx = s.usbTx := rfl
@[simp] theorem State.withSched_i2cWr (ts : List Turn) : (s.withSched ts).i2cWr = s.i2cWr := rfl
@[simp] theorem State.withSched_i2cRd (ts : List Turn) : (s.withSched ts).i2cRd = s.i2cRd := rfl
@[simp] theorem State.withSched_log (ts : List Turn) : (s.withSched ts).log = s.log := rfl
@[simp] theorem State.withSched_choices (ts : List Turn) : (s.withSched ts).choices = s.choices := rfl

/-! ### `State.complete` -/

@[simp] theorem State.complete_fstate (v : Word) : (s.complete v).fstate = s.fstate := rfl
@[simp] theorem State.complete_rxb (v : Word) : (s.complete v).rxb = s.rxb := rfl
@[simp] theorem State.complete_fill (v : Word) : (s.complete v).fill = s.fill := rfl
@[simp] theorem State.complete_msg (v : Word) : (s.complete v).msg = s.msg := rfl
@[simp] theorem State.complete_rspLen (v : Word) : (s.complete v).rspLen = s.rspLen := rfl
@[simp] theorem State.complete_foff (v : Word) : (s.complete v).foff = s.foff := rfl
@[simp] theorem State.complete_txInflight (v : Word) : (s.complete v).txInflight = s.txInflight := rfl
@[simp] theorem State.complete_framingErr (v : Word) : (s.complete v).framingErr = s.framingErr := rfl
@[simp] theorem State.complete_seq (v : Word) : (s.complete v).seq = s.seq := rfl
@[simp] theorem State.complete_t1state (v : Word) : (s.complete v).t1state = .idle := rfl
@[simp] theorem State.complete_attempt (v : Word) : (s.complete v).attempt = s.attempt := rfl
@[simp] theorem State.complete_t1pcb (v : Word) : (s.complete v).t1pcb = s.t1pcb := rfl
@[simp] theorem State.complete_t1outlen (v : Word) : (s.complete v).t1outlen = s.t1outlen := rfl
@[simp] theorem State.complete_t1explen (v : Word) : (s.complete v).t1explen = s.t1explen := rfl
@[simp] theorem State.complete_txf (v : Word) : (s.complete v).txf = s.txf := rfl
@[simp] theorem State.complete_txfLen (v : Word) : (s.complete v).txfLen = s.txfLen := rfl
@[simp] theorem State.complete_apdu (v : Word) : (s.complete v).apdu = s.apdu := rfl
@[simp] theorem State.complete_rxHdr (v : Word) : (s.complete v).rxHdr = s.rxHdr := rfl
@[simp] theorem State.complete_rxDecl (v : Word) : (s.complete v).rxDecl = s.rxDecl := rfl
@[simp] theorem State.complete_t1result (v : Word) : (s.complete v).t1result = v := rfl
@[simp] theorem State.complete_t1busy (v : Word) : (s.complete v).t1busy = false := rfl
@[simp] theorem State.complete_fault (v : Word) : (s.complete v).fault = s.fault := rfl
@[simp] theorem State.complete_sched (v : Word) : (s.complete v).sched = s.sched := rfl
@[simp] theorem State.complete_usbRx (v : Word) : (s.complete v).usbRx = s.usbRx := rfl
@[simp] theorem State.complete_usbTx (v : Word) : (s.complete v).usbTx = s.usbTx := rfl
@[simp] theorem State.complete_i2cWr (v : Word) : (s.complete v).i2cWr = s.i2cWr := rfl
@[simp] theorem State.complete_i2cRd (v : Word) : (s.complete v).i2cRd = s.i2cRd := rfl
@[simp] theorem State.complete_log (v : Word) : (s.complete v).log = s.log ++ [.t1Answer v] := rfl
@[simp] theorem State.complete_choices (v : Word) : (s.complete v).choices = s.choices := rfl

/-! ### `State.takeRequest` -/

@[simp] theorem State.takeRequest_fstate (p : Params) (pcb : Byte) (o e : Half) : (s.takeRequest p pcb o e).fstate = s.fstate := rfl
@[simp] theorem State.takeRequest_rxb (p : Params) (pcb : Byte) (o e : Half) : (s.takeRequest p pcb o e).rxb = s.rxb := rfl
@[simp] theorem State.takeRequest_fill (p : Params) (pcb : Byte) (o e : Half) : (s.takeRequest p pcb o e).fill = s.fill := rfl
@[simp] theorem State.takeRequest_msg (p : Params) (pcb : Byte) (o e : Half) : (s.takeRequest p pcb o e).msg = s.msg := rfl
@[simp] theorem State.takeRequest_rspLen (p : Params) (pcb : Byte) (o e : Half) : (s.takeRequest p pcb o e).rspLen = s.rspLen := rfl
@[simp] theorem State.takeRequest_foff (p : Params) (pcb : Byte) (o e : Half) : (s.takeRequest p pcb o e).foff = s.foff := rfl
@[simp] theorem State.takeRequest_txInflight (p : Params) (pcb : Byte) (o e : Half) : (s.takeRequest p pcb o e).txInflight = s.txInflight := rfl
@[simp] theorem State.takeRequest_framingErr (p : Params) (pcb : Byte) (o e : Half) : (s.takeRequest p pcb o e).framingErr = s.framingErr := rfl
@[simp] theorem State.takeRequest_seq (p : Params) (pcb : Byte) (o e : Half) : (s.takeRequest p pcb o e).seq = seqAfterStart p pcb s.seq := rfl
@[simp] theorem State.takeRequest_t1state (p : Params) (pcb : Byte) (o e : Half) : (s.takeRequest p pcb o e).t1state = s.t1state := rfl
@[simp] theorem State.takeRequest_attempt (p : Params) (pcb : Byte) (o e : Half) : (s.takeRequest p pcb o e).attempt = s.attempt := rfl
@[simp] theorem State.takeRequest_t1pcb (p : Params) (pcb : Byte) (o e : Half) : (s.takeRequest p pcb o e).t1pcb = pcb := rfl
@[simp] theorem State.takeRequest_t1outlen (p : Params) (pcb : Byte) (o e : Half) : (s.takeRequest p pcb o e).t1outlen = o := rfl
@[simp] theorem State.takeRequest_t1explen (p : Params) (pcb : Byte) (o e : Half) : (s.takeRequest p pcb o e).t1explen = e := rfl
@[simp] theorem State.takeRequest_txf (p : Params) (pcb : Byte) (o e : Half) : (s.takeRequest p pcb o e).txf = s.txf := rfl
@[simp] theorem State.takeRequest_txfLen (p : Params) (pcb : Byte) (o e : Half) : (s.takeRequest p pcb o e).txfLen = s.txfLen := rfl
@[simp] theorem State.takeRequest_apdu (p : Params) (pcb : Byte) (o e : Half) : (s.takeRequest p pcb o e).apdu = s.apdu := rfl
@[simp] theorem State.takeRequest_rxHdr (p : Params) (pcb : Byte) (o e : Half) : (s.takeRequest p pcb o e).rxHdr = s.rxHdr := rfl
@[simp] theorem State.takeRequest_rxDecl (p : Params) (pcb : Byte) (o e : Half) : (s.takeRequest p pcb o e).rxDecl = s.rxDecl := rfl
@[simp] theorem State.takeRequest_t1result (p : Params) (pcb : Byte) (o e : Half) : (s.takeRequest p pcb o e).t1result = s.t1result := rfl
@[simp] theorem State.takeRequest_t1busy (p : Params) (pcb : Byte) (o e : Half) : (s.takeRequest p pcb o e).t1busy = true := rfl
@[simp] theorem State.takeRequest_fault (p : Params) (pcb : Byte) (o e : Half) : (s.takeRequest p pcb o e).fault = s.fault := rfl
@[simp] theorem State.takeRequest_sched (p : Params) (pcb : Byte) (o e : Half) : (s.takeRequest p pcb o e).sched = s.sched := rfl
@[simp] theorem State.takeRequest_usbRx (p : Params) (pcb : Byte) (o e : Half) : (s.takeRequest p pcb o e).usbRx = s.usbRx := rfl
@[simp] theorem State.takeRequest_usbTx (p : Params) (pcb : Byte) (o e : Half) : (s.takeRequest p pcb o e).usbTx = s.usbTx := rfl
@[simp] theorem State.takeRequest_i2cWr (p : Params) (pcb : Byte) (o e : Half) : (s.takeRequest p pcb o e).i2cWr = s.i2cWr := rfl
@[simp] theorem State.takeRequest_i2cRd (p : Params) (pcb : Byte) (o e : Half) : (s.takeRequest p pcb o e).i2cRd = s.i2cRd := rfl
@[simp] theorem State.takeRequest_log (p : Params) (pcb : Byte) (o e : Half) : (s.takeRequest p pcb o e).log = s.log := rfl
@[simp] theorem State.takeRequest_choices (p : Params) (pcb : Byte) (o e : Half) : (s.takeRequest p pcb o e).choices = s.choices := rfl

/-! ### `State.markFramingErr` -/

@[simp] theorem State.markFramingErr_fstate : s.markFramingErr.fstate = s.fstate := rfl
@[simp] theorem State.markFramingErr_rxb : s.markFramingErr.rxb = s.rxb := rfl
@[simp] theorem State.markFramingErr_fill : s.markFramingErr.fill = s.fill := rfl
@[simp] theorem State.markFramingErr_msg : s.markFramingErr.msg = s.msg := rfl
@[simp] theorem State.markFramingErr_rspLen : s.markFramingErr.rspLen = s.rspLen := rfl
@[simp] theorem State.markFramingErr_foff : s.markFramingErr.foff = s.foff := rfl
@[simp] theorem State.markFramingErr_txInflight : s.markFramingErr.txInflight = s.txInflight := rfl
@[simp] theorem State.markFramingErr_framingErr : s.markFramingErr.framingErr = true := rfl
@[simp] theorem State.markFramingErr_seq : s.markFramingErr.seq = s.seq := rfl
@[simp] theorem State.markFramingErr_t1state : s.markFramingErr.t1state = s.t1state := rfl
@[simp] theorem State.markFramingErr_attempt : s.markFramingErr.attempt = s.attempt := rfl
@[simp] theorem State.markFramingErr_t1pcb : s.markFramingErr.t1pcb = s.t1pcb := rfl
@[simp] theorem State.markFramingErr_t1outlen : s.markFramingErr.t1outlen = s.t1outlen := rfl
@[simp] theorem State.markFramingErr_t1explen : s.markFramingErr.t1explen = s.t1explen := rfl
@[simp] theorem State.markFramingErr_txf : s.markFramingErr.txf = s.txf := rfl
@[simp] theorem State.markFramingErr_txfLen : s.markFramingErr.txfLen = s.txfLen := rfl
@[simp] theorem State.markFramingErr_apdu : s.markFramingErr.apdu = s.apdu := rfl
@[simp] theorem State.markFramingErr_rxHdr : s.markFramingErr.rxHdr = s.rxHdr := rfl
@[simp] theorem State.markFramingErr_rxDecl : s.markFramingErr.rxDecl = s.rxDecl := rfl
@[simp] theorem State.markFramingErr_t1result : s.markFramingErr.t1result = s.t1result := rfl
@[simp] theorem State.markFramingErr_t1busy : s.markFramingErr.t1busy = s.t1busy := rfl
@[simp] theorem State.markFramingErr_fault : s.markFramingErr.fault = s.fault := rfl
@[simp] theorem State.markFramingErr_sched : s.markFramingErr.sched = s.sched := rfl
@[simp] theorem State.markFramingErr_usbRx : s.markFramingErr.usbRx = s.usbRx := rfl
@[simp] theorem State.markFramingErr_usbTx : s.markFramingErr.usbTx = s.usbTx := rfl
@[simp] theorem State.markFramingErr_i2cWr : s.markFramingErr.i2cWr = s.i2cWr := rfl
@[simp] theorem State.markFramingErr_i2cRd : s.markFramingErr.i2cRd = s.i2cRd := rfl
@[simp] theorem State.markFramingErr_log : s.markFramingErr.log = s.log := rfl
@[simp] theorem State.markFramingErr_choices : s.markFramingErr.choices = s.choices := rfl

/-! ### `State.releaseTx` -/

@[simp] theorem State.releaseTx_fstate : s.releaseTx.fstate = s.fstate := rfl
@[simp] theorem State.releaseTx_rxb : s.releaseTx.rxb = s.rxb := rfl
@[simp] theorem State.releaseTx_fill : s.releaseTx.fill = s.fill := rfl
@[simp] theorem State.releaseTx_msg : s.releaseTx.msg = s.msg := rfl
@[simp] theorem State.releaseTx_rspLen : s.releaseTx.rspLen = s.rspLen := rfl
@[simp] theorem State.releaseTx_foff : s.releaseTx.foff = s.foff := rfl
@[simp] theorem State.releaseTx_txInflight : s.releaseTx.txInflight = false := rfl
@[simp] theorem State.releaseTx_framingErr : s.releaseTx.framingErr = s.framingErr := rfl
@[simp] theorem State.releaseTx_seq : s.releaseTx.seq = s.seq := rfl
@[simp] theorem State.releaseTx_t1state : s.releaseTx.t1state = s.t1state := rfl
@[simp] theorem State.releaseTx_attempt : s.releaseTx.attempt = s.attempt := rfl
@[simp] theorem State.releaseTx_t1pcb : s.releaseTx.t1pcb = s.t1pcb := rfl
@[simp] theorem State.releaseTx_t1outlen : s.releaseTx.t1outlen = s.t1outlen := rfl
@[simp] theorem State.releaseTx_t1explen : s.releaseTx.t1explen = s.t1explen := rfl
@[simp] theorem State.releaseTx_txf : s.releaseTx.txf = s.txf := rfl
@[simp] theorem State.releaseTx_txfLen : s.releaseTx.txfLen = s.txfLen := rfl
@[simp] theorem State.releaseTx_apdu : s.releaseTx.apdu = s.apdu := rfl
@[simp] theorem State.releaseTx_rxHdr : s.releaseTx.rxHdr = s.rxHdr := rfl
@[simp] theorem State.releaseTx_rxDecl : s.releaseTx.rxDecl = s.rxDecl := rfl
@[simp] theorem State.releaseTx_t1result : s.releaseTx.t1result = s.t1result := rfl
@[simp] theorem State.releaseTx_t1busy : s.releaseTx.t1busy = s.t1busy := rfl
@[simp] theorem State.releaseTx_fault : s.releaseTx.fault = s.fault := rfl
@[simp] theorem State.releaseTx_sched : s.releaseTx.sched = s.sched := rfl
@[simp] theorem State.releaseTx_usbRx : s.releaseTx.usbRx = s.usbRx := rfl
@[simp] theorem State.releaseTx_usbTx : s.releaseTx.usbTx = s.usbTx := rfl
@[simp] theorem State.releaseTx_i2cWr : s.releaseTx.i2cWr = s.i2cWr := rfl
@[simp] theorem State.releaseTx_i2cRd : s.releaseTx.i2cRd = s.i2cRd := rfl
@[simp] theorem State.releaseTx_log : s.releaseTx.log = s.log := rfl
@[simp] theorem State.releaseTx_choices : s.releaseTx.choices = s.choices := rfl

/-! ### `State.enterPhase` -/

@[simp] theorem State.enterPhase_fstate (ph : T1State) : (s.enterPhase ph).fstate = s.fstate := rfl
@[simp] theorem State.enterPhase_rxb (ph : T1State) : (s.enterPhase ph).rxb = s.rxb := rfl
@[simp] theorem State.enterPhase_fill (ph : T1State) : (s.enterPhase ph).fill = s.fill := rfl
@[simp] theorem State.enterPhase_msg (ph : T1State) : (s.enterPhase ph).msg = s.msg := rfl
@[simp] theorem State.enterPhase_rspLen (ph : T1State) : (s.enterPhase ph).rspLen = s.rspLen := rfl
@[simp] theorem State.enterPhase_foff (ph : T1State) : (s.enterPhase ph).foff = s.foff := rfl
@[simp] theorem State.enterPhase_txInflight (ph : T1State) : (s.enterPhase ph).txInflight = s.txInflight := rfl
@[simp] theorem State.enterPhase_framingErr (ph : T1State) : (s.enterPhase ph).framingErr = s.framingErr := rfl
@[simp] theorem State.enterPhase_seq (ph : T1State) : (s.enterPhase ph).seq = s.seq := rfl
@[simp] theorem State.enterPhase_t1state (ph : T1State) : (s.enterPhase ph).t1state = ph := rfl
@[simp] theorem State.enterPhase_attempt (ph : T1State) : (s.enterPhase ph).attempt = 1 := rfl
@[simp] theorem State.enterPhase_t1pcb (ph : T1State) : (s.enterPhase ph).t1pcb = s.t1pcb := rfl
@[simp] theorem State.enterPhase_t1outlen (ph : T1State) : (s.enterPhase ph).t1outlen = s.t1outlen := rfl
@[simp] theorem State.enterPhase_t1explen (ph : T1State) : (s.enterPhase ph).t1explen = s.t1explen := rfl
@[simp] theorem State.enterPhase_txf (ph : T1State) : (s.enterPhase ph).txf = s.txf := rfl
@[simp] theorem State.enterPhase_txfLen (ph : T1State) : (s.enterPhase ph).txfLen = s.txfLen := rfl
@[simp] theorem State.enterPhase_apdu (ph : T1State) : (s.enterPhase ph).apdu = s.apdu := rfl
@[simp] theorem State.enterPhase_rxHdr (ph : T1State) : (s.enterPhase ph).rxHdr = s.rxHdr := rfl
@[simp] theorem State.enterPhase_rxDecl (ph : T1State) : (s.enterPhase ph).rxDecl = s.rxDecl := rfl
@[simp] theorem State.enterPhase_t1result (ph : T1State) : (s.enterPhase ph).t1result = s.t1result := rfl
@[simp] theorem State.enterPhase_t1busy (ph : T1State) : (s.enterPhase ph).t1busy = s.t1busy := rfl
@[simp] theorem State.enterPhase_fault (ph : T1State) : (s.enterPhase ph).fault = s.fault := rfl
@[simp] theorem State.enterPhase_sched (ph : T1State) : (s.enterPhase ph).sched = s.sched := rfl
@[simp] theorem State.enterPhase_usbRx (ph : T1State) : (s.enterPhase ph).usbRx = s.usbRx := rfl
@[simp] theorem State.enterPhase_usbTx (ph : T1State) : (s.enterPhase ph).usbTx = s.usbTx := rfl
@[simp] theorem State.enterPhase_i2cWr (ph : T1State) : (s.enterPhase ph).i2cWr = s.i2cWr := rfl
@[simp] theorem State.enterPhase_i2cRd (ph : T1State) : (s.enterPhase ph).i2cRd = s.i2cRd := rfl
@[simp] theorem State.enterPhase_log (ph : T1State) : (s.enterPhase ph).log = s.log := rfl
@[simp] theorem State.enterPhase_choices (ph : T1State) : (s.enterPhase ph).choices = s.choices := rfl

/-! ### `State.nextAttempt` -/

@[simp] theorem State.nextAttempt_fstate : s.nextAttempt.fstate = s.fstate := rfl
@[simp] theorem State.nextAttempt_rxb : s.nextAttempt.rxb = s.rxb := rfl
@[simp] theorem State.nextAttempt_fill : s.nextAttempt.fill = s.fill := rfl
@[simp] theorem State.nextAttempt_msg : s.nextAttempt.msg = s.msg := rfl
@[simp] theorem State.nextAttempt_rspLen : s.nextAttempt.rspLen = s.rspLen := rfl
@[simp] theorem State.nextAttempt_foff : s.nextAttempt.foff = s.foff := rfl
@[simp] theorem State.nextAttempt_txInflight : s.nextAttempt.txInflight = s.txInflight := rfl
@[simp] theorem State.nextAttempt_framingErr : s.nextAttempt.framingErr = s.framingErr := rfl
@[simp] theorem State.nextAttempt_seq : s.nextAttempt.seq = s.seq := rfl
@[simp] theorem State.nextAttempt_t1state : s.nextAttempt.t1state = s.t1state := rfl
@[simp] theorem State.nextAttempt_attempt : s.nextAttempt.attempt = s.attempt + 1 := rfl
@[simp] theorem State.nextAttempt_t1pcb : s.nextAttempt.t1pcb = s.t1pcb := rfl
@[simp] theorem State.nextAttempt_t1outlen : s.nextAttempt.t1outlen = s.t1outlen := rfl
@[simp] theorem State.nextAttempt_t1explen : s.nextAttempt.t1explen = s.t1explen := rfl
@[simp] theorem State.nextAttempt_txf : s.nextAttempt.txf = s.txf := rfl
@[simp] theorem State.nextAttempt_txfLen : s.nextAttempt.txfLen = s.txfLen := rfl
@[simp] theorem State.nextAttempt_apdu : s.nextAttempt.apdu = s.apdu := rfl
@[simp] theorem State.nextAttempt_rxHdr : s.nextAttempt.rxHdr = s.rxHdr := rfl
@[simp] theorem State.nextAttempt_rxDecl : s.nextAttempt.rxDecl = s.rxDecl := rfl
@[simp] theorem State.nextAttempt_t1result : s.nextAttempt.t1result = s.t1result := rfl
@[simp] theorem State.nextAttempt_t1busy : s.nextAttempt.t1busy = s.t1busy := rfl
@[simp] theorem State.nextAttempt_fault : s.nextAttempt.fault = s.fault := rfl
@[simp] theorem State.nextAttempt_sched : s.nextAttempt.sched = s.sched := rfl
@[simp] theorem State.nextAttempt_usbRx : s.nextAttempt.usbRx = s.usbRx := rfl
@[simp] theorem State.nextAttempt_usbTx : s.nextAttempt.usbTx = s.usbTx := rfl
@[simp] theorem State.nextAttempt_i2cWr : s.nextAttempt.i2cWr = s.i2cWr := rfl
@[simp] theorem State.nextAttempt_i2cRd : s.nextAttempt.i2cRd = s.i2cRd := rfl
@[simp] theorem State.nextAttempt_log : s.nextAttempt.log = s.log ++ [.delay] := rfl
@[simp] theorem State.nextAttempt_choices : s.nextAttempt.choices = s.choices := rfl

/-! ### `State.tookI2cWr` -/

@[simp] theorem State.tookI2cWr_fstate (rest : List Int) (a : PortAct) : (s.tookI2cWr rest a).fstate = s.fstate := rfl
@[simp] theorem State.tookI2cWr_rxb (rest : List Int) (a : PortAct) : (s.tookI2cWr rest a).rxb = s.rxb := rfl
@[simp] theorem State.tookI2cWr_fill (rest : List Int) (a : PortAct) : (s.tookI2cWr rest a).fill = s.fill := rfl
@[simp] theorem State.tookI2cWr_msg (rest : List Int) (a : PortAct) : (s.tookI2cWr rest a).msg = s.msg := rfl
@[simp] theorem State.tookI2cWr_rspLen (rest : List Int) (a : PortAct) : (s.tookI2cWr rest a).rspLen = s.rspLen := rfl
@[simp] theorem State.tookI2cWr_foff (rest : List Int) (a : PortAct) : (s.tookI2cWr rest a).foff = s.foff := rfl
@[simp] theorem State.tookI2cWr_txInflight (rest : List Int) (a : PortAct) : (s.tookI2cWr rest a).txInflight = s.txInflight := rfl
@[simp] theorem State.tookI2cWr_framingErr (rest : List Int) (a : PortAct) : (s.tookI2cWr rest a).framingErr = s.framingErr := rfl
@[simp] theorem State.tookI2cWr_seq (rest : List Int) (a : PortAct) : (s.tookI2cWr rest a).seq = s.seq := rfl
@[simp] theorem State.tookI2cWr_t1state (rest : List Int) (a : PortAct) : (s.tookI2cWr rest a).t1state = s.t1state := rfl
@[simp] theorem State.tookI2cWr_attempt (rest : List Int) (a : PortAct) : (s.tookI2cWr rest a).attempt = s.attempt := rfl
@[simp] theorem State.tookI2cWr_t1pcb (rest : List Int) (a : PortAct) : (s.tookI2cWr rest a).t1pcb = s.t1pcb := rfl
@[simp] theorem State.tookI2cWr_t1outlen (rest : List Int) (a : PortAct) : (s.tookI2cWr rest a).t1outlen = s.t1outlen := rfl
@[simp] theorem State.tookI2cWr_t1explen (rest : List Int) (a : PortAct) : (s.tookI2cWr rest a).t1explen = s.t1explen := rfl
@[simp] theorem State.tookI2cWr_txf (rest : List Int) (a : PortAct) : (s.tookI2cWr rest a).txf = s.txf := rfl
@[simp] theorem State.tookI2cWr_txfLen (rest : List Int) (a : PortAct) : (s.tookI2cWr rest a).txfLen = s.txfLen := rfl
@[simp] theorem State.tookI2cWr_apdu (rest : List Int) (a : PortAct) : (s.tookI2cWr rest a).apdu = s.apdu := rfl
@[simp] theorem State.tookI2cWr_rxHdr (rest : List Int) (a : PortAct) : (s.tookI2cWr rest a).rxHdr = s.rxHdr := rfl
@[simp] theorem State.tookI2cWr_rxDecl (rest : List Int) (a : PortAct) : (s.tookI2cWr rest a).rxDecl = s.rxDecl := rfl
@[simp] theorem State.tookI2cWr_t1result (rest : List Int) (a : PortAct) : (s.tookI2cWr rest a).t1result = s.t1result := rfl
@[simp] theorem State.tookI2cWr_t1busy (rest : List Int) (a : PortAct) : (s.tookI2cWr rest a).t1busy = s.t1busy := rfl
@[simp] theorem State.tookI2cWr_fault (rest : List Int) (a : PortAct) : (s.tookI2cWr rest a).fault = s.fault := rfl
@[simp] theorem State.tookI2cWr_sched (rest : List Int) (a : PortAct) : (s.tookI2cWr rest a).sched = s.sched := rfl
@[simp] theorem State.tookI2cWr_usbRx (rest : List Int) (a : PortAct) : (s.tookI2cWr rest a).usbRx = s.usbRx := rfl
@[simp] theorem State.tookI2cWr_usbTx (rest : List Int) (a : PortAct) : (s.tookI2cWr rest a).usbTx = s.usbTx := rfl
@[simp] theorem State.tookI2cWr_i2cWr (rest : List Int) (a : PortAct) : (s.tookI2cWr rest a).i2cWr = rest := rfl
@[simp] theorem State.tookI2cWr_i2cRd (rest : List Int) (a : PortAct) : (s.tookI2cWr rest a).i2cRd = s.i2cRd := rfl
@[simp] theorem State.tookI2cWr_log (rest : List Int) (a : PortAct) : (s.tookI2cWr rest a).log = s.log ++ [a] := rfl
@[simp] theorem State.tookI2cWr_choices (rest : List Int) (a : PortAct) : (s.tookI2cWr rest a).choices = s.choices := rfl

/-! ### `State.tookI2cRd` -/

@[simp] theorem State.tookI2cRd_fstate (rest : List (List Byte)) (a : PortAct) : (s.tookI2cRd rest a).fstate = s.fstate := rfl
@[simp] theorem State.tookI2cRd_rxb (rest : List (List Byte)) (a : PortAct) : (s.tookI2cRd rest a).rxb = s.rxb := rfl
@[simp] theorem State.tookI2cRd_fill (rest : List (List Byte)) (a : PortAct) : (s.tookI2cRd rest a).fill = s.fill := rfl
@[simp] theorem State.tookI2cRd_msg (rest : List (List Byte)) (a : PortAct) : (s.tookI2cRd rest a).msg = s.msg := rfl
@[simp] theorem State.tookI2cRd_rspLen (rest : List (List Byte)) (a : PortAct) : (s.tookI2cRd rest a).rspLen = s.rspLen := rfl
@[simp] theorem State.tookI2cRd_foff (rest : List (List Byte)) (a : PortAct) : (s.tookI2cRd rest a).foff = s.foff := rfl
@[simp] theorem State.tookI2cRd_txInflight (rest : List (List Byte)) (a : PortAct) : (s.tookI2cRd rest a).txInflight = s.txInflight := rfl
@[simp] theorem State.tookI2cRd_framingErr (rest : List (List Byte)) (a : PortAct) : (s.tookI2cRd rest a).framingErr = s.framingErr := rfl
@[simp] theorem State.tookI2cRd_seq (rest : List (List Byte)) (a : PortAct) : (s.tookI2cRd rest a).seq = s.seq := rfl
@[simp] theorem State.tookI2cRd_t1state (rest : List (List Byte)) (a : PortAct) : (s.tookI2cRd rest a).t1state = s.t1state := rfl
@[simp] theorem State.tookI2cRd_attempt (rest : List (List Byte)) (a : PortAct) : (s.tookI2cRd rest a).attempt = s.attempt := rfl
@[simp] theorem State.tookI2cRd_t1pcb (rest : List (List Byte)) (a : PortAct) : (s.tookI2cRd rest a).t1pcb = s.t1pcb := rfl
@[simp] theorem State.tookI2cRd_t1outlen (rest : List (List Byte)) (a : PortAct) : (s.tookI2cRd rest a).t1outlen = s.t1outlen := rfl
@[simp] theorem State.tookI2cRd_t1explen (rest : List (List Byte)) (a : PortAct) : (s.tookI2cRd rest a).t1explen = s.t1explen := rfl
@[simp] theorem State.tookI2cRd_txf (rest : List (List Byte)) (a : PortAct) : (s.tookI2cRd rest a).txf = s.txf := rfl
@[simp] theorem State.tookI2cRd_txfLen (rest : List (List Byte)) (a : PortAct) : (s.tookI2cRd rest a).txfLen = s.txfLen := rfl
@[simp] theorem State.tookI2cRd_apdu (rest : List (List Byte)) (a : PortAct) : (s.tookI2cRd rest a).apdu = s.apdu := rfl
@[simp] theorem State.tookI2cRd_rxHdr (rest : List (List Byte)) (a : PortAct) : (s.tookI2cRd rest a).rxHdr = s.rxHdr := rfl
@[simp] theorem State.tookI2cRd_rxDecl (rest : List (List Byte)) (a : PortAct) : (s.tookI2cRd rest a).rxDecl = s.rxDecl := rfl
@[simp] theorem State.tookI2cRd_t1result (rest : List (List Byte)) (a : PortAct) : (s.tookI2cRd rest a).t1result = s.t1result := rfl
@[simp] theorem State.tookI2cRd_t1busy (rest : List (List Byte)) (a : PortAct) : (s.tookI2cRd rest a).t1busy = s.t1busy := rfl
@[simp] theorem State.tookI2cRd_fault (rest : List (List Byte)) (a : PortAct) : (s.tookI2cRd rest a).fault = s.fault := rfl
@[simp] theorem State.tookI2cRd_sched (rest : List (List Byte)) (a : PortAct) : (s.tookI2cRd rest a).sched = s.sched := rfl
@[simp] theorem State.tookI2cRd_usbRx (rest : List (List Byte)) (a : PortAct) : (s.tookI2cRd rest a).usbRx = s.usbRx := rfl
@[simp] theorem State.tookI2cRd_usbTx (rest : List (List Byte)) (a : PortAct) : (s.tookI2cRd rest a).usbTx = s.usbTx := rfl
@[simp] theorem State.tookI2cRd_i2cWr (rest : List (List Byte)) (a : PortAct) : (s.tookI2cRd rest a).i2cWr = s.i2cWr := rfl
@[simp] theorem State.tookI2cRd_i2cRd (rest : List (List Byte)) (a : PortAct) : (s.tookI2cRd rest a).i2cRd = rest := rfl
@[simp] theorem State.tookI2cRd_log (rest : List (List Byte)) (a : PortAct) : (s.tookI2cRd rest a).log = s.log ++ [a] := rfl
@[simp] theorem State.tookI2cRd_choices (rest : List (List Byte)) (a : PortAct) : (s.tookI2cRd rest a).choices = s.choices := rfl

/-! ### `State.setHeader` -/

@[simp] theorem State.setHeader_fstate (h : RxHdr) : (s.setHeader h).fstate = s.fstate := rfl
@[simp] theorem State.setHeader_rxb (h : RxHdr) : (s.setHeader h).rxb = s.rxb := rfl
@[simp] theorem State.setHeader_fill (h : RxHdr) : (s.setHeader h).fill = s.fill := rfl
@[simp] theorem State.setHeader_msg (h : RxHdr) : (s.setHeader h).msg = s.msg := rfl
@[simp] theorem State.setHeader_rspLen (h : RxHdr) : (s.setHeader h).rspLen = s.rspLen := rfl
@[simp] theorem State.setHeader_foff (h : RxHdr) : (s.setHeader h).foff = s.foff := rfl
@[simp] theorem State.setHeader_txInflight (h : RxHdr) : (s.setHeader h).txInflight = s.txInflight := rfl
@[simp] theorem State.setHeader_framingErr (h : RxHdr) : (s.setHeader h).framingErr = s.framingErr := rfl
@[simp] theorem State.setHeader_seq (h : RxHdr) : (s.setHeader h).seq = s.seq := rfl
@[simp] theorem State.setHeader_t1state (h : RxHdr) : (s.setHeader h).t1state = s.t1state := rfl
@[simp] theorem State.setHeader_attempt (h : RxHdr) : (s.setHeader h).attempt = s.attempt := rfl
@[simp] theorem State.setHeader_t1pcb (h : RxHdr) : (s.setHeader h).t1pcb = s.t1pcb := rfl
@[simp] theorem State.setHeader_t1outlen (h : RxHdr) : (s.setHeader h).t1outlen = s.t1outlen := rfl
@[simp] theorem State.setHeader_t1explen (h : RxHdr) : (s.setHeader h).t1explen = s.t1explen := rfl
@[simp] theorem State.setHeader_txf (h : RxHdr) : (s.setHeader h).txf = s.txf := rfl
@[simp] theorem State.setHeader_txfLen (h : RxHdr) : (s.setHeader h).txfLen = s.txfLen := rfl
@[simp] theorem State.setHeader_apdu (h : RxHdr) : (s.setHeader h).apdu = s.apdu := rfl
@[simp] theorem State.setHeader_rxHdr (h : RxHdr) : (s.setHeader h).rxHdr = h := rfl
@[simp] theorem State.setHeader_rxDecl (h : RxHdr) : (s.setHeader h).rxDecl = be16 h.lenHi h.lenLo := rfl
@[simp] theorem State.setHeader_t1result (h : RxHdr) : (s.setHeader h).t1result = s.t1result := rfl
@[simp] theorem State.setHeader_t1busy (h : RxHdr) : (s.setHeader h).t1busy = s.t1busy := rfl
@[simp] theorem State.setHeader_fault (h : RxHdr) : (s.setHeader h).fault = s.fault := rfl
@[simp] theorem State.setHeader_sched (h : RxHdr) : (s.setHeader h).sched = s.sched := rfl
@[simp] theorem State.setHeader_usbRx (h : RxHdr) : (s.setHeader h).usbRx = s.usbRx := rfl
@[simp] theorem State.setHeader_usbTx (h : RxHdr) : (s.setHeader h).usbTx = s.usbTx := rfl
@[simp] theorem State.setHeader_i2cWr (h : RxHdr) : (s.setHeader h).i2cWr = s.i2cWr := rfl
@[simp] theorem State.setHeader_i2cRd (h : RxHdr) : (s.setHeader h).i2cRd = s.i2cRd := rfl
@[simp] theorem State.setHeader_log (h : RxHdr) : (s.setHeader h).log = s.log := rfl
@[simp] theorem State.setHeader_choices (h : RxHdr) : (s.setHeader h).choices = s.choices := rfl

/-! ### `State.tookUsbTx` -/

@[simp] theorem State.tookUsbTx_fstate (rest : List Nat) (chunk : List Byte) (a : Nat) : (s.tookUsbTx rest chunk a).fstate = if s.foff + a = s.rspLen then .await else s.fstate := rfl
@[simp] theorem State.tookUsbTx_rxb (rest : List Nat) (chunk : List Byte) (a : Nat) : (s.tookUsbTx rest chunk a).rxb = s.rxb := rfl
@[simp] theorem State.tookUsbTx_fill (rest : List Nat) (chunk : List Byte) (a : Nat) : (s.tookUsbTx rest chunk a).fill = s.fill := rfl
@[simp] theorem State.tookUsbTx_msg (rest : List Nat) (chunk : List Byte) (a : Nat) : (s.tookUsbTx rest chunk a).msg = s.msg := rfl
@[simp] theorem State.tookUsbTx_rspLen (rest : List Nat) (chunk : List Byte) (a : Nat) : (s.tookUsbTx rest chunk a).rspLen = s.rspLen := rfl
@[simp] theorem State.tookUsbTx_foff (rest : List Nat) (chunk : List Byte) (a : Nat) : (s.tookUsbTx rest chunk a).foff = s.foff + a := rfl
@[simp] theorem State.tookUsbTx_txInflight (rest : List Nat) (chunk : List Byte) (a : Nat) : (s.tookUsbTx rest chunk a).txInflight = txAfterWrite a s.txInflight := rfl
@[simp] theorem State.tookUsbTx_framingErr (rest : List Nat) (chunk : List Byte) (a : Nat) : (s.tookUsbTx rest chunk a).framingErr = s.framingErr := rfl
@[simp] theorem State.tookUsbTx_seq (rest : List Nat) (chunk : List Byte) (a : Nat) : (s.tookUsbTx rest chunk a).seq = s.seq := rfl
@[simp] theorem State.tookUsbTx_t1state (rest : List Nat) (chunk : List Byte) (a : Nat) : (s.tookUsbTx rest chunk a).t1state = s.t1state := rfl
@[simp] theorem State.tookUsbTx_attempt (rest : List Nat) (chunk : List Byte) (a : Nat) : (s.tookUsbTx rest chunk a).attempt = s.attempt := rfl
@[simp] theorem State.tookUsbTx_t1pcb (rest : List Nat) (chunk : List Byte) (a : Nat) : (s.tookUsbTx rest chunk a).t1pcb = s.t1pcb := rfl
@[simp] theorem State.tookUsbTx_t1outlen (rest : List Nat) (chunk : List Byte) (a : Nat) : (s.tookUsbTx rest chunk a).t1outlen = s.t1outlen := rfl
@[simp] theorem State.tookUsbTx_t1explen (rest : List Nat) (chunk : List Byte) (a : Nat) : (s.tookUsbTx rest chunk a).t1explen = s.t1explen := rfl
@[simp] theorem State.tookUsbTx_txf (rest : List Nat) (chunk : List Byte) (a : Nat) : (s.tookUsbTx rest chunk a).txf = s.txf := rfl
@[simp] theorem State.tookUsbTx_txfLen (rest : List Nat) (chunk : List Byte) (a : Nat) : (s.tookUsbTx rest chunk a).txfLen = s.txfLen := rfl
@[simp] theorem State.tookUsbTx_apdu (rest : List Nat) (chunk : List Byte) (a : Nat) : (s.tookUsbTx rest chunk a).apdu = s.apdu := rfl
@[simp] theorem State.tookUsbTx_rxHdr (rest : List Nat) (chunk : List Byte) (a : Nat) : (s.tookUsbTx rest chunk a).rxHdr = s.rxHdr := rfl
@[simp] theorem State.tookUsbTx_rxDecl (rest : List Nat) (chunk : List Byte) (a : Nat) : (s.tookUsbTx rest chunk a).rxDecl = s.rxDecl := rfl
@[simp] theorem State.tookUsbTx_t1result (rest : List Nat) (chunk : List Byte) (a : Nat) : (s.tookUsbTx rest chunk a).t1result = s.t1result := rfl
@[simp] theorem State.tookUsbTx_t1busy (rest : List Nat) (chunk : List Byte) (a : Nat) : (s.tookUsbTx rest chunk a).t1busy = s.t1busy := rfl
@[simp] theorem State.tookUsbTx_fault (rest : List Nat) (chunk : List Byte) (a : Nat) : (s.tookUsbTx rest chunk a).fault = s.fault := rfl
@[simp] theorem State.tookUsbTx_sched (rest : List Nat) (chunk : List Byte) (a : Nat) : (s.tookUsbTx rest chunk a).sched = s.sched := rfl
@[simp] theorem State.tookUsbTx_usbRx (rest : List Nat) (chunk : List Byte) (a : Nat) : (s.tookUsbTx rest chunk a).usbRx = s.usbRx := rfl
@[simp] theorem State.tookUsbTx_usbTx (rest : List Nat) (chunk : List Byte) (a : Nat) : (s.tookUsbTx rest chunk a).usbTx = rest := rfl
@[simp] theorem State.tookUsbTx_i2cWr (rest : List Nat) (chunk : List Byte) (a : Nat) : (s.tookUsbTx rest chunk a).i2cWr = s.i2cWr := rfl
@[simp] theorem State.tookUsbTx_i2cRd (rest : List Nat) (chunk : List Byte) (a : Nat) : (s.tookUsbTx rest chunk a).i2cRd = s.i2cRd := rfl
@[simp] theorem State.tookUsbTx_log (rest : List Nat) (chunk : List Byte) (a : Nat) : (s.tookUsbTx rest chunk a).log = s.log ++ [.usbWrite chunk a] := rfl
@[simp] theorem State.tookUsbTx_choices (rest : List Nat) (chunk : List Byte) (a : Nat) : (s.tookUsbTx rest chunk a).choices = s.choices := rfl

/-! ### `State.tookUsbRx` -/

@[simp] theorem State.tookUsbRx_fstate (p : Params) (rest : List (List Byte)) (c : List Byte) : (s.tookUsbRx p rest c).fstate = s.fstate := rfl
@[simp] theorem State.tookUsbRx_rxb (p : Params) (rest : List (List Byte)) (c : List Byte) : (s.tookUsbRx p rest c).rxb = s.rxb := rfl
@[simp] theorem State.tookUsbRx_fill (p : Params) (rest : List (List Byte)) (c : List Byte) : (s.tookUsbRx p rest c).fill = s.fill + c.length := rfl
@[simp] theorem State.tookUsbRx_msg (p : Params) (rest : List (List Byte)) (c : List Byte) : (s.tookUsbRx p rest c).msg = s.msg := rfl
@[simp] theorem State.tookUsbRx_rspLen (p : Params) (rest : List (List Byte)) (c : List Byte) : (s.tookUsbRx p rest c).rspLen = s.rspLen := rfl
@[simp] theorem State.tookUsbRx_foff (p : Params) (rest : List (List Byte)) (c : List Byte) : (s.tookUsbRx p rest c).foff = s.foff := rfl
@[simp] theorem State.tookUsbRx_txInflight (p : Params) (rest : List (List Byte)) (c : List Byte) : (s.tookUsbRx p rest c).txInflight = s.txInflight := rfl
@[simp] theorem State.tookUsbRx_framingErr (p : Params) (rest : List (List Byte)) (c : List Byte) : (s.tookUsbRx p rest c).framingErr = s.framingErr := rfl
@[simp] theorem State.tookUsbRx_seq (p : Params) (rest : List (List Byte)) (c : List Byte) : (s.tookUsbRx p rest c).seq = s.seq := rfl
@[simp] theorem State.tookUsbRx_t1state (p : Params) (rest : List (List Byte)) (c : List Byte) : (s.tookUsbRx p rest c).t1state = s.t1state := rfl
@[simp] theorem State.tookUsbRx_attempt (p : Params) (rest : List (List Byte)) (c : List Byte) : (s.tookUsbRx p rest c).attempt = s.attempt := rfl
@[simp] theorem State.tookUsbRx_t1pcb (p : Params) (rest : List (List Byte)) (c : List Byte) : (s.tookUsbRx p rest c).t1pcb = s.t1pcb := rfl
@[simp] theorem State.tookUsbRx_t1outlen (p : Params) (rest : List (List Byte)) (c : List Byte) : (s.tookUsbRx p rest c).t1outlen = s.t1outlen := rfl
@[simp] theorem State.tookUsbRx_t1explen (p : Params) (rest : List (List Byte)) (c : List Byte) : (s.tookUsbRx p rest c).t1explen = s.t1explen := rfl
@[simp] theorem State.tookUsbRx_txf (p : Params) (rest : List (List Byte)) (c : List Byte) : (s.tookUsbRx p rest c).txf = s.txf := rfl
@[simp] theorem State.tookUsbRx_txfLen (p : Params) (rest : List (List Byte)) (c : List Byte) : (s.tookUsbRx p rest c).txfLen = s.txfLen := rfl
@[simp] theorem State.tookUsbRx_apdu (p : Params) (rest : List (List Byte)) (c : List Byte) : (s.tookUsbRx p rest c).apdu = s.apdu := rfl
@[simp] theorem State.tookUsbRx_rxHdr (p : Params) (rest : List (List Byte)) (c : List Byte) : (s.tookUsbRx p rest c).rxHdr = s.rxHdr := rfl
@[simp] theorem State.tookUsbRx_rxDecl (p : Params) (rest : List (List Byte)) (c : List Byte) : (s.tookUsbRx p rest c).rxDecl = s.rxDecl := rfl
@[simp] theorem State.tookUsbRx_t1result (p : Params) (rest : List (List Byte)) (c : List Byte) : (s.tookUsbRx p rest c).t1result = s.t1result := rfl
@[simp] theorem State.tookUsbRx_t1busy (p : Params) (rest : List (List Byte)) (c : List Byte) : (s.tookUsbRx p rest c).t1busy = s.t1busy := rfl
@[simp] theorem State.tookUsbRx_fault (p : Params) (rest : List (List Byte)) (c : List Byte) : (s.tookUsbRx p rest c).fault = s.fault := rfl
@[simp] theorem State.tookUsbRx_sched (p : Params) (rest : List (List Byte)) (c : List Byte) : (s.tookUsbRx p rest c).sched = s.sched := rfl
@[simp] theorem State.tookUsbRx_usbRx (p : Params) (rest : List (List Byte)) (c : List Byte) : (s.tookUsbRx p rest c).usbRx = rest := rfl
@[simp] theorem State.tookUsbRx_usbTx (p : Params) (rest : List (List Byte)) (c : List Byte) : (s.tookUsbRx p rest c).usbTx = s.usbTx := rfl
@[simp] theorem State.tookUsbRx_i2cWr (p : Params) (rest : List (List Byte)) (c : List Byte) : (s.tookUsbRx p rest c).i2cWr = s.i2cWr := rfl
@[simp] theorem State.tookUsbRx_i2cRd (p : Params) (rest : List (List Byte)) (c : List Byte) : (s.tookUsbRx p rest c).i2cRd = s.i2cRd := rfl
@[simp] theorem State.tookUsbRx_log (p : Params) (rest : List (List Byte)) (c : List Byte) : (s.tookUsbRx p rest c).log = s.log ++ [.usbRead (freeSpace p s) c] := rfl
@[simp] theorem State.tookUsbRx_choices (p : Params) (rest : List (List Byte)) (c : List Byte) : (s.tookUsbRx p rest c).choices = s.choices := rfl

/-! ### `State.setBuf` -/

@[simp] theorem State.setBuf_fstate (b : BufId) (m : Memory) : (s.setBuf b m).fstate = s.fstate := by cases b <;> rfl
@[simp] theorem State.setBuf_fill (b : BufId) (m : Memory) : (s.setBuf b m).fill = s.fill := by cases b <;> rfl
@[simp] theorem State.setBuf_rspLen (b : BufId) (m : Memory) : (s.setBuf b m).rspLen = s.rspLen := by cases b <;> rfl
@[simp] theorem State.setBuf_foff (b : BufId) (m : Memory) : (s.setBuf b m).foff = s.foff := by cases b <;> rfl
@[simp] theorem State.setBuf_txInflight (b : BufId) (m : Memory) : (s.setBuf b m).txInflight = s.txInflight := by cases b <;> rfl
@[simp] theorem State.setBuf_framingErr (b : BufId) (m : Memory) : (s.setBuf b m).framingErr = s.framingErr := by cases b <;> rfl
@[simp] theorem State.setBuf_seq (b : BufId) (m : Memory) : (s.setBuf b m).seq = s.seq := by cases b <;> rfl
@[simp] theorem State.setBuf_t1state (b : BufId) (m : Memory) : (s.setBuf b m).t1state = s.t1state := by cases b <;> rfl
@[simp] theorem State.setBuf_attempt (b : BufId) (m : Memory) : (s.setBuf b m).attempt = s.attempt := by cases b <;> rfl
@[simp] theorem State.setBuf_t1pcb (b : BufId) (m : Memory) : (s.setBuf b m).t1pcb = s.t1pcb := by cases b <;> rfl
@[simp] theorem State.setBuf_t1outlen (b : BufId) (m : Memory) : (s.setBuf b m).t1outlen = s.t1outlen := by cases b <;> rfl
@[simp] theorem State.setBuf_t1explen (b : BufId) (m : Memory) : (s.setBuf b m).t1explen = s.t1explen := by cases b <;> rfl
@[simp] theorem State.setBuf_txfLen (b : BufId) (m : Memory) : (s.setBuf b m).txfLen = s.txfLen := by cases b <;> rfl
@[simp] theorem State.setBuf_rxHdr (b : BufId) (m : Memory) : (s.setBuf b m).rxHdr = s.rxHdr := by cases b <;> rfl
@[simp] theorem State.setBuf_rxDecl (b : BufId) (m : Memory) : (s.setBuf b m).rxDecl = s.rxDecl := by cases b <;> rfl
@[simp] theorem State.setBuf_t1result (b : BufId) (m : Memory) : (s.setBuf b m).t1result = s.t1result := by cases b <;> rfl
@[simp] theorem State.setBuf_t1busy (b : BufId) (m : Memory) : (s.setBuf b m).t1busy = s.t1busy := by cases b <;> rfl
@[simp] theorem State.setBuf_fault (b : BufId) (m : Memory) : (s.setBuf b m).fault = s.fault := by cases b <;> rfl
@[simp] theorem State.setBuf_sched (b : BufId) (m : Memory) : (s.setBuf b m).sched = s.sched := by cases b <;> rfl
@[simp] theorem State.setBuf_usbRx (b : BufId) (m : Memory) : (s.setBuf b m).usbRx = s.usbRx := by cases b <;> rfl
@[simp] theorem State.setBuf_usbTx (b : BufId) (m : Memory) : (s.setBuf b m).usbTx = s.usbTx := by cases b <;> rfl
@[simp] theorem State.setBuf_i2cWr (b : BufId) (m : Memory) : (s.setBuf b m).i2cWr = s.i2cWr := by cases b <;> rfl
@[simp] theorem State.setBuf_i2cRd (b : BufId) (m : Memory) : (s.setBuf b m).i2cRd = s.i2cRd := by cases b <;> rfl
@[simp] theorem State.setBuf_log (b : BufId) (m : Memory) : (s.setBuf b m).log = s.log := by cases b <;> rfl
@[simp] theorem State.setBuf_choices (b : BufId) (m : Memory) : (s.setBuf b m).choices = s.choices := by cases b <;> rfl
@[simp] theorem State.setBuf_rxb_rxb (m : Memory) : (s.setBuf .rxb m).rxb = m := rfl
@[simp] theorem State.setBuf_rxb_msg (m : Memory) : (s.setBuf .rxb m).msg = s.msg := rfl
@[simp] theorem State.setBuf_rxb_apdu (m : Memory) : (s.setBuf .rxb m).apdu = s.apdu := rfl
@[simp] theorem State.setBuf_rxb_txf (m : Memory) : (s.setBuf .rxb m).txf = s.txf := rfl
@[simp] theorem State.setBuf_msg_rxb (m : Memory) : (s.setBuf .msg m).rxb = s.rxb := rfl
@[simp] theorem State.setBuf_msg_msg (m : Memory) : (s.setBuf .msg m).msg = m := rfl
@[simp] theorem State.setBuf_msg_apdu (m : Memory) : (s.setBuf .msg m).apdu = s.apdu := rfl
@[simp] theorem State.setBuf_msg_txf (m : Memory) : (s.setBuf .msg m).txf = s.txf := rfl
@[simp] theorem State.setBuf_apdu_rxb (m : Memory) : (s.setBuf .apdu m).rxb = s.rxb := rfl
@[simp] theorem State.setBuf_apdu_msg (m : Memory) : (s.setBuf .apdu m).msg = s.msg := rfl
@[simp] theorem State.setBuf_apdu_apdu (m : Memory) : (s.setBuf .apdu m).apdu = m := rfl
@[simp] theorem State.setBuf_apdu_txf (m : Memory) : (s.setBuf .apdu m).txf = s.txf := rfl
@[simp] theorem State.setBuf_txf_rxb (m : Memory) : (s.setBuf .txf m).rxb = s.rxb := rfl
@[simp] theorem State.setBuf_txf_msg (m : Memory) : (s.setBuf .txf m).msg = s.msg := rfl
@[simp] theorem State.setBuf_txf_apdu (m : Memory) : (s.setBuf .txf m).apdu = s.apdu := rfl
@[simp] theorem State.setBuf_txf_txf (m : Memory) : (s.setBuf .txf m).txf = m := rfl
@[simp] theorem State.buf_rxb : s.buf .rxb = s.rxb := rfl
@[simp] theorem State.buf_msg : s.buf .msg = s.msg := rfl
@[simp] theorem State.buf_apdu : s.buf .apdu = s.apdu := rfl
@[simp] theorem State.buf_txf : s.buf .txf = s.txf := rfl

@[simp] theorem State.buf_setBuf_same (b : BufId) (m : Memory) : (s.setBuf b m).buf b = m := by cases b <;> rfl

theorem State.buf_setBuf_ne {b c : BufId} (h : c ≠ b) (m : Memory) : (s.setBuf b m).buf c = s.buf c := by
  cases b <;> cases c <;> first | rfl | exact absurd rfl h

end Sys2Proof.Machine
end

