-- ==== Sys2Proof/Laws/Ops.lean ====
section
/-! SUPPORT. The shared operations: what each answers, said once. -/

namespace Sys2Proof.Machine

open Sys2Proof.Safety (bytesAt)

/-! ### `Except` -/

@[simp] theorem except_ok_bind {α β : Type} (a : α) (f : α → Except Fault β) : (Except.ok a >>= f) = f a := rfl
@[simp] theorem except_error_bind {α β : Type} (e : Fault) (f : α → Except Fault β) :
    (Except.error e >>= f) = Except.error e := rfl
@[simp] theorem except_pure {α : Type} (a : α) : (pure a : Except Fault α) = Except.ok a := rfl

theorem except_bind_eq_ok {α β : Type} {x : Except Fault α} {f : α → Except Fault β} {r : β} :
    (x >>= f) = .ok r ↔ ∃ a, x = .ok a ∧ f a = .ok r := by
  cases x <;> simp

theorem except_bind_eq_error {α β : Type} {x : Except Fault α} {f : α → Except Fault β} {e : Fault} :
    (x >>= f) = .error e ↔ x = .error e ∨ ∃ a, x = .ok a ∧ f a = .error e := by
  cases x <;> simp

/-! ### `settle`, `whenEnabled` -/

@[simp] theorem settle_ok (s t : State) : settle s (.ok t) = .next t := rfl
@[simp] theorem settle_error (s : State) (f : Fault) : settle s (.error f) = .next (s.raise f) := rfl

/-- Every operation answers a next state: its effect, or the state with the fault recorded. -/
theorem settle_eq_next {s t : State} {r : Except Fault State} :
    settle s r = .next t ↔ r = .ok t ∨ ∃ f, r = .error f ∧ t = s.raise f := by
  cases r <;> simp [eq_comm]

@[simp] theorem whenEnabled_true (s : State) (r : Except Fault State) : whenEnabled true s r = r := rfl
@[simp] theorem whenEnabled_false (s : State) (r : Except Fault State) : whenEnabled false s r = .ok s := rfl

theorem whenEnabled_eq_ok {b : Bool} {s t : State} {r : Except Fault State} :
    whenEnabled b s r = .ok t ↔ (b = true ∧ r = .ok t) ∨ (b = false ∧ t = s) := by
  cases b <;> simp [eq_comm]

theorem whenEnabled_eq_error {b : Bool} {s : State} {r : Except Fault State} {f : Fault} :
    whenEnabled b s r = .error f ↔ b = true ∧ r = .error f := by
  cases b <;> simp

/-! ### Buffer accesses -/

theorem memRead_eq_ok {p : Params} {b : BufId} {a n : Nat} {s : State} {bs : List Byte} :
    memRead p b a n s = .ok bs ↔ a + n ≤ capacity p b ∧ (s.buf b).readN a n = some bs := by
  unfold memRead
  by_cases h : a + n ≤ capacity p b
  · rw [if_pos h]; cases hr : (s.buf b).readN a n <;> simp [h]
  · simp [h]

theorem memRead_eq_error {p : Params} {b : BufId} {a n : Nat} {s : State} {f : Fault} :
    memRead p b a n s = .error f ↔
      (a + n ≤ capacity p b ∧ (s.buf b).readN a n = none ∧ f = .unwritten b a n) ∨
      (capacity p b < a + n ∧ f = .bufferBounds b a n) := by
  unfold memRead
  by_cases h : a + n ≤ capacity p b
  · rw [if_pos h]; cases hr : (s.buf b).readN a n <;> simp [h, Nat.not_lt.mpr h, eq_comm]
  · simp [h, Nat.lt_of_not_le h, eq_comm]

theorem memRead_ok {p : Params} {b : BufId} {a n : Nat} {s : State} {bs : List Byte} (hc : a + n ≤ capacity p b)
    (h : (s.buf b).readN a n = some bs) : memRead p b a n s = .ok bs := memRead_eq_ok.mpr ⟨hc, h⟩

theorem memRead_length {p : Params} {b : BufId} {a n : Nat} {s : State} {bs : List Byte}
    (h : memRead p b a n s = .ok bs) : bs.length = n := Memory.readN_length (memRead_eq_ok.mp h).2

theorem memWrite_eq_ok {p : Params} {b : BufId} {a : Nat} {bs : List Byte} {s t : State} :
    memWrite p b a bs s = .ok t ↔
      a + bs.length ≤ capacity p b ∧ t = s.setBuf b ((s.buf b).writeN a bs) := by
  unfold memWrite
  by_cases h : a + bs.length ≤ capacity p b <;> simp [h, eq_comm]

theorem memWrite_eq_error {p : Params} {b : BufId} {a : Nat} {bs : List Byte} {s : State} {f : Fault} :
    memWrite p b a bs s = .error f ↔ capacity p b < a + bs.length ∧ f = .bufferBounds b a bs.length := by
  unfold memWrite
  by_cases h : a + bs.length ≤ capacity p b
  · simp [h, Nat.not_lt.mpr h]
  · simp [h, Nat.lt_of_not_le h, eq_comm]

theorem memWrite_ok {p : Params} {b : BufId} {a : Nat} {bs : List Byte} (s : State)
    (h : a + bs.length ≤ capacity p b) :
    memWrite p b a bs s = .ok (s.setBuf b ((s.buf b).writeN a bs)) := memWrite_eq_ok.mpr ⟨h, rfl⟩

/-! ### Capacities (R10) -/

theorem capacity_msg {p : Params} (hp : p.Legal) : 1034 ≤ capacity p .msg := by
  have := hp.msgPayloadCap; simp only [capacity, Config.hdr]; omega

theorem capacity_rxb {p : Params} (hp : p.Legal) : 1034 ≤ capacity p .rxb := hp.rxCap

theorem capacity_apdu {p : Params} (hp : p.Legal) : 4090 ≤ capacity p .apdu := hp.apduCap

@[simp] theorem capacity_txf (p : Params) : capacity p .txf = 4094 := rfl

/-! ### Length fields -/

/-- The buffered message's length field, where its four bytes stand in `RXB` (R153). -/
theorem rxbLength_ok {p : Params} (hp : p.Legal) {s : State} {l0 l1 l2 l3 : Byte}
    (h : s.rxb.readN 1 4 = some [l0, l1, l2, l3]) : rxbLength p s = .ok (le32 l0 l1 l2 l3) := by
  have := capacity_rxb hp
  unfold rxbLength
  rw [memRead_ok (b := .rxb) (s := s) (by omega) h]; rfl

/-- The command's length field, where its four bytes stand in `MSG` (R71). -/
theorem msgLength_ok {p : Params} (hp : p.Legal) {s : State} {l0 l1 l2 l3 : Byte}
    (h : s.msg.readN 1 4 = some [l0, l1, l2, l3]) : msgLength p s = .ok (le32 l0 l1 l2 l3) := by
  have := capacity_msg hp
  unfold msgLength
  rw [memRead_ok (b := .msg) (s := s) (by omega) h]; rfl

/-- A length field of `RXB` that was read is four bytes there. -/
theorem rxbLength_eq_ok {p : Params} {s : State} {len : Word} (h : rxbLength p s = .ok len) :
    ∃ l0 l1 l2 l3, s.rxb.readN 1 4 = some [l0, l1, l2, l3] ∧ len = le32 l0 l1 l2 l3 := by
  simp only [rxbLength, except_bind_eq_ok, memRead_eq_ok, except_pure, Except.ok.injEq] at h
  obtain ⟨bs, ⟨-, hr⟩, rfl⟩ := h
  match bs, Memory.readN_length hr with
  | [l0, l1, l2, l3], _ => exact ⟨l0, l1, l2, l3, hr, rfl⟩

end Sys2Proof.Machine
end

