-- ==== Sys2Proof/Laws/Dispatcher.lean ====
section
/-! SUPPORT. The dispatcher's shared operations: what each ends in, said once. -/

namespace Sys2Proof.Machine

open Sys2Proof.Safety (bytesAt headerByte)

/-- The message buffer after the response header writer (R172). -/
def respondedMsg (rtype : Byte) (len : Word) (status error param : Byte) (m : Memory) : Memory :=
  ((m.writeN 0 [rtype]).writeN 1 (le32bytes len)).writeN 7 [status, error, param]

/-- The state after the response header writer (R172). -/
def respondedState (rtype : Byte) (len : Word) (status error param : Byte) (s : State) : State :=
  { s with
    msg := respondedMsg rtype len status error param s.msg
    rspLen := Config.hdr + len.toNat, foff := 0, fstate := .flush }

/-- The header writer always completes: the header fits every legal message buffer. -/
theorem respond_eq {p : Params} (hp : p.Legal) (rtype : Byte) (len : Word) (status error param : Byte) (s : State) :
    respond p rtype len status error param s = .ok (respondedState rtype len status error param s) := by
  have hc := capacity_msg hp
  unfold respond
  rw [memWrite_ok _ (by simp only [List.length_cons, List.length_nil]; omega)]
  simp only [except_ok_bind]
  rw [memWrite_ok _ (by simp only [le32bytes_length]; omega)]
  simp only [except_ok_bind]
  rw [memWrite_ok _ (by simp only [List.length_cons, List.length_nil]; omega)]
  rfl

/-- The bytes of `MSG` after the header writer: the header's, and every other byte as before (R172, R187). -/
theorem read_respondedMsg (rtype : Byte) (len : Word) (status error param : Byte) (m : Memory) (a : Nat) :
    (respondedMsg rtype len status error param m).read a =
      (headerByte rtype len status error param a).or (m.read a) := by
  simp only [respondedMsg, Memory.read_writeN, headerByte, bytesAt, le32bytes]
  match a with
  | 0 | 1 | 2 | 3 | 4 | 5 | 6 | 7 | 8 | 9 => simp
  | n + 10 => simp

/-- `MSG[5]` and `MSG[6]` keep the command's slot and seq (R187). -/
theorem read_respondedMsg_echo (rtype : Byte) (len : Word) (status error param : Byte) (m : Memory) :
    (respondedMsg rtype len status error param m).read 5 = m.read 5 ∧
    (respondedMsg rtype len status error param m).read 6 = m.read 6 := by
  simp [read_respondedMsg, headerByte, bytesAt, le32bytes]

theorem wf_respondedMsg {m : Memory} (h : m.wf) (rtype : Byte) (len : Word) (status error param : Byte) :
    (respondedMsg rtype len status error param m).wf :=
  Memory.wf_writeN (Memory.wf_writeN (Memory.wf_writeN h _ _) _ _) _ _

/-- Everything `powerOn` can do. -/
theorem powerOn_eq {p : Params} (hp : p.Legal) (s : State) :
    powerOn p s = .ok (if s.fstate = .build then
      respondedState Config.rspDataBlock 4 0x00 0x00 0x00 { s with msg := s.msg.writeN 10 Config.atrBytes }
      else s) := by
  have hc := capacity_msg hp
  unfold powerOn
  by_cases h : s.fstate = .build
  · simp only [h, beq_self_eq_true, whenEnabled_true, if_true]
    rw [memWrite_ok _ (by simp only [Config.hdr, Config.atrBytes, List.length_cons, List.length_nil]; omega)]
    simp only [except_ok_bind, respond_eq hp]
    rfl
  · have hb : (s.fstate == FState.build) = false := by simpa using h
    simp [hb, h]

/-- Everything a command that only writes a header can do. -/
theorem headerCommand_eq {p : Params} (hp : p.Legal) (rtype : Byte) (len : Word) (status error param : Byte)
    (s : State) :
    whenEnabled (s.fstate == .build) s (respond p rtype len status error param s) =
      .ok (if s.fstate = .build then respondedState rtype len status error param s else s) := by
  by_cases h : s.fstate = .build
  · simp [h, respond_eq hp]
  · have hb : (s.fstate == FState.build) = false := by simpa using h
    simp [hb, h]

/-- Everything the start of a transfer can do (R178): the length read, or the fault of reading it. -/
theorem xfrBlockStart_eq (p : Params) (s : State) :
    xfrBlockStart p s =
      if s.fstate = .build then
        match msgLength p s with
        | .ok len => .ok { s.record (.process len) with fstate := .process }
        | .error f => .error f
      else .ok s := by
  unfold xfrBlockStart
  by_cases h : s.fstate = .build
  · cases hm : msgLength p s <;> simp [h]
  · have hb : (s.fstate == FState.build) = false := by simpa using h
    simp [hb, h]

/-- Everything a positive answer can do (R179, R205, R206). -/
theorem answerOk_eq {p : Params} (hp : p.Legal) (rv : Word) (s : State) :
    answerOk p rv s =
      if s.fstate ≠ .process then .error (.portContract .process)
      else if rv.toInt < 0 then .ok s
      else if rv.toInt > p.msgPayloadCap then .error (.procOverrun rv)
      else .ok (respondedState Config.rspDataBlock rv 0x00 0x00 0x00 s) := by
  unfold answerOk
  by_cases h : s.fstate = .process
  · by_cases hr : 0 ≤ rv.toInt
    · simp [h, hr, respond_eq hp, Int.not_lt.mpr hr]
    · simp [h, hr, Int.not_le.mp hr]
  · simp [h]

/-- Everything a negative answer can do (R180, R206). -/
theorem answerFail_eq {p : Params} (hp : p.Legal) (rv : Word) (s : State) :
    answerFail p rv s =
      if s.fstate ≠ .process then .error (.portContract .process)
      else if rv.toInt < 0 then
        .ok (respondedState Config.rspDataBlock 0 Config.statusFailed (errByte rv) 0x00 s)
      else .ok s := by
  unfold answerFail
  by_cases h : s.fstate = .process
  · by_cases hr : rv.toInt < 0
    · simp [h, hr, respond_eq hp]
    · simp [h, hr]
  · simp [h]

/-- Everything a response row can do (R172). -/
theorem respondRow_eq {p : Params} (hp : p.Legal) (rtype : Byte) (r : CcidResponse) (s : State) :
    respondRow p rtype r s =
      .ok (if s.fstate = .build then respondedState rtype r.len r.status r.error r.param s else s) := by
  unfold respondRow
  cases h : s.fstate <;> simp [respond_eq hp] <;> rfl

/-- Everything a flush can do (R190 to R192): not enabled, no chunk to read, hold, breach of contract, or a write. -/
theorem flushChunk_eq (p : Params) (s : State) :
    flushChunk p s =
      if s.fstate = .flush ∧ s.txInflight = false then
        match memRead p .msg s.foff (chunkSize p s) s with
        | .error f => .error f
        | .ok chunk =>
          match s.usbTx with
          | [] => .ok s
          | a :: rest =>
            if a > chunkSize p s then .error (.portContract .usbTx)
            else .ok (s.tookUsbTx rest chunk a)
      else .ok s := by
  unfold flushChunk
  by_cases h : s.fstate = .flush ∧ s.txInflight = false
  · rw [if_pos h]
    simp only [h.1, h.2, beq_self_eq_true, Bool.not_false, Bool.and_self, whenEnabled_true]
    cases hm : memRead p .msg s.foff (chunkSize p s) s with
    | error f => rfl
    | ok chunk =>
      simp only [except_ok_bind]
      cases hu : s.usbTx with
      | nil => rfl
      | cons a rest =>
        rfl
  · rw [if_neg h]
    have hb : (s.fstate == FState.flush && !s.txInflight) = false := by
      cases hf : s.fstate <;> cases ht : s.txInflight <;> simp_all
    simp [hb]

end Sys2Proof.Machine
end

