-- ==== Sys2Proof/Laws/Reassembler.lean ====
section
/-! SUPPORT. The reassembler's shared operations: what each ends in, said once. -/

namespace Sys2Proof.Machine

/-- Everything `ReadMore` can do (R152, R206): hold, breach of contract, or read. -/
theorem readMore_eq (p : Params) (s : State) :
    readMore p s =
      match s.usbRx with
      | [] => .ok s
      | c :: rest =>
        if c.length = 0 ∨ c.length > freeSpace p s then .error (.portContract .usbRx)
        else .ok ((s.setBuf .rxb (s.rxb.writeN s.fill c)).tookUsbRx p rest c) := by
  unfold readMore
  cases hu : s.usbRx with
  | nil => rfl
  | cons c rest =>
    simp only
    split
    · rfl
    · rename_i h
      rw [memWrite_ok _ (by simp only [freeSpace] at h; simp only [capacity]; omega)]
      rfl

/-- The state after a yield of the message `m` that keeps the bytes `kept` (R155). -/
def yieldedState (s : State) (m kept : List Byte) : State :=
  { s with
    msg := s.msg.writeN 0 m, rxb := s.rxb.writeN 0 kept, fill := s.fill - m.length, fstate := .build }

/-- A yield at a boundary within the buffered bytes `bs` (R155, R157). -/
theorem yieldMessage_eq {p : Params} (hp : p.Legal) {s : State} {bs : List Byte} {boundary : Nat}
    (hr : s.rxb.readN 0 s.fill = some bs) (hf : s.fill ≤ p.rxCap) (hb : boundary ≤ s.fill) (hm : boundary ≤ 1034) :
    yieldMessage p boundary s = .ok (yieldedState s (bs.take boundary) (bs.drop boundary)) := by
  obtain ⟨hl, hk⟩ := Memory.readN_eq_some.mp hr
  have hcm := capacity_msg hp
  have h1 : s.rxb.readN 0 boundary = some (bs.take boundary) :=
    Memory.readN_eq_some.mpr ⟨by simp only [List.length_take]; omega, fun k hk' => by
      simp only [List.length_take] at hk'
      rw [hk k (by omega), List.getElem_take]⟩
  have h2 : s.rxb.readN boundary (s.fill - boundary) = some (bs.drop boundary) :=
    Memory.readN_eq_some.mpr ⟨by simp only [List.length_drop]; omega, fun k hk' => by
      simp only [List.length_drop] at hk'
      have := hk (boundary + k) (by omega)
      rw [List.getElem_drop, ← this]; simp⟩
  have r1 : memRead p .rxb 0 boundary s = .ok (bs.take boundary) :=
    memRead_eq_ok.mpr ⟨by simp only [capacity]; omega, h1⟩
  have r2 : memRead p .rxb boundary (s.fill - boundary)
      (s.setBuf .msg (s.msg.writeN 0 (bs.take boundary))) = .ok (bs.drop boundary) :=
    memRead_eq_ok.mpr ⟨by simp only [capacity]; omega, h2⟩
  have hmin : min boundary bs.length = boundary := by omega
  unfold yieldMessage
  rw [r1]
  simp only [except_ok_bind]
  rw [memWrite_ok _ (by simp only [List.length_take]; omega)]
  simp only [except_ok_bind, State.buf_msg]
  rw [r2]
  simp only [except_ok_bind]
  rw [memWrite_ok _ (by simp only [List.length_drop, capacity]; omega)]
  simp [yieldedState, State.setBuf, hmin]

/-- Everything `Reassemble` can do (R151): not enabled, discard, yield, or read more. -/
theorem reassemble_eq (p : Params) (s : State) :
    reassemble p s =
      if s.fstate = .await then
        if s.fill ≥ Config.hdr then
          match rxbLength p s with
          | .error f => .error f
          | .ok len =>
            if len.toNat > Config.maxMsg then .ok (discard s)
            else if s.fill ≥ Config.hdr + len.toNat then yieldMessage p (Config.hdr + len.toNat) s
            else readMore p s
        else readMore p s
      else .ok s := by
  unfold reassemble
  by_cases h : s.fstate = .await
  · simp only [h, beq_self_eq_true, whenEnabled_true, if_true]
    split
    · cases hl : rxbLength p s <;> rfl
    · rfl
  · have hb : (s.fstate == FState.await) = false := by simpa using h
    simp [hb, h]

end Sys2Proof.Machine
end

