-- ==== Sys2Proof/Laws/T1.lean ====
section
/-! SUPPORT. The T=1′ engine's shared operations: what each ends in, said once. -/

namespace Sys2Proof.Machine

open Sys2Proof.Safety (bytesAt frameBytes)

/-- `TransportFail()` always completes: the generic-error bytes fit every legal `APDU` (R126). -/
theorem transportFail_eq {p : Params} (hp : p.Legal) (s : State) :
    transportFail p s = .ok ({ s with apdu := s.apdu.writeN 0 p.genericErr }.complete 0) := by
  have := hp.genericErr
  unfold transportFail
  rw [memWrite_ok _ (by simp only [capacity]; omega)]
  rfl

/-- The state after a failed attempt (R118, R126): the next attempt, or the end of the transaction. -/
def failedState (p : Params) (s : State) : State :=
  if s.attempt < p.nAttempts then s.nextAttempt else { s with apdu := s.apdu.writeN 0 p.genericErr }.complete 0

/-- A failed attempt always completes (R118). -/
theorem attemptFailed_eq {p : Params} (hp : p.Legal) (s : State) : attemptFailed p s = .ok (failedState p s) := by
  unfold attemptFailed failedState
  split <;> simp [transportFail_eq hp]

@[simp] theorem frameBytes_length (nad pcb : Byte) (len : Half) (data : List Byte) :
    (frameBytes nad pcb len data).length = data.length + 6 := by
  simp [frameBytes]

/-- The state after a frame was built (R114). -/
def builtState (p : Params) (s : State) (data : List Byte) : State :=
  { s with
    txf := s.txf.writeN 0 (frameBytes p.nadTx s.t1pcb (lenValue s) data)
    txfLen := BitVec.ofNat 16 (s.t1outlen.toNat + 6) }

theorem Memory.writeN_append (m : Memory) (a : Nat) (bs cs : List Byte) :
    m.writeN a (bs ++ cs) = (m.writeN a bs).writeN (a + bs.length) cs := by
  induction bs generalizing m a with
  | nil => rfl
  | cons b bs ih =>
    simp only [List.cons_append, Memory.writeN, ih, List.length_cons]
    congr 1; omega

/-- A frame is built whenever its payload stands in `APDU` (R114): NAD, PCB, LEN, payload and CRC stand in `TXF`. -/
theorem buildFrame_eq {p : Params} (hp : p.Legal) {s : State} {data : List Byte}
    (hn : s.t1outlen.toNat < 4089) (hd : s.apdu.readN 0 s.t1outlen.toNat = some data) :
    buildFrame p s = .ok (builtState p s data) := by
  have hca := capacity_apdu hp
  have hl := Memory.readN_length hd
  have hh : (frameHead p s).length = 4 := rfl
  have r1 : memRead p .apdu 0 s.t1outlen.toNat s = .ok data := memRead_eq_ok.mpr ⟨by omega, hd⟩
  have r2 : memRead p .txf 0 (4 + s.t1outlen.toNat) (s.setBuf .txf ((s.txf.writeN 0 (frameHead p s)).writeN 4 data)) =
      .ok (frameHead p s ++ data) := memRead_eq_ok.mpr ⟨by simp only [capacity_txf]; omega, by
    have h := Memory.readN_writeN_same s.txf 0 (frameHead p s ++ data)
    rw [Memory.writeN_append] at h
    simpa [hh, hl] using h⟩
  unfold buildFrame
  rw [r1]
  simp only [except_ok_bind]
  rw [memWrite_ok _ (by simp [hh])]
  simp only [except_ok_bind]
  rw [memWrite_ok _ (by simp only [capacity_txf]; omega)]
  simp only [except_ok_bind]
  have e : (s.setBuf .txf ((s.buf .txf).writeN 0 (frameHead p s))).setBuf .txf
      (((s.setBuf .txf ((s.buf .txf).writeN 0 (frameHead p s))).buf .txf).writeN 4 data) =
      s.setBuf .txf ((s.txf.writeN 0 (frameHead p s)).writeN 4 data) := rfl
  rw [e, r2]
  simp only [except_ok_bind]
  rw [memWrite_ok _ (by simp only [capacity_txf, frameCrc_length]; omega)]
  simp only [except_ok_bind, except_pure, builtState]
  have hw : ((s.txf.writeN 0 (frameHead p s)).writeN 4 data).writeN (4 + s.t1outlen.toNat)
      (frameCrc (frameHead p s ++ data)) = s.txf.writeN 0 (frameBytes p.nadTx s.t1pcb (lenValue s) data) := by
    have : frameBytes p.nadTx s.t1pcb (lenValue s) data =
        (frameHead p s ++ data) ++ frameCrc (frameHead p s ++ data) := by simp [frameBytes, frameHead]
    rw [this, Memory.writeN_append, Memory.writeN_append]
    simp [hh, hl]
  rw [← hw]
  rfl

/-- The state after an accepted start (R112): the request's registers, the frame, the write phase. -/
def startedState (p : Params) (pcb : Byte) (outLength expectedReplyLength : Half) (data : List Byte) (s : State) :
    State :=
  { s with
    t1busy := true, t1pcb := pcb, t1outlen := outLength, t1explen := expectedReplyLength
    seq := seqAfterStart p pcb s.seq
    txf := s.txf.writeN 0 (frameBytes p.nadTx pcb
      (if outLength.toNat > 0 then outLength else expectedReplyLength) data)
    txfLen := BitVec.ofNat 16 (outLength.toNat + 6)
    attempt := 1, t1state := .write }

/-- The state after a start whose payload is too long (R116). -/
def rejectedState (p : Params) (pcb : Byte) (outLength expectedReplyLength : Half) (s : State) : State :=
  (s.takeRequest p pcb outLength expectedReplyLength).complete Config.errTooLong

theorem startTransaction_tooLong {p : Params} {pcb : Byte} {o e : Half} {s : State} (h : o.toNat ≥ 4089) :
    startTransaction p pcb o e s = .ok (rejectedState p pcb o e s) := by
  unfold startTransaction
  rw [if_pos (by simpa [Config.t1MaxOut] using h)]; rfl

theorem startTransaction_accepted {p : Params} (hp : p.Legal) {pcb : Byte} {o e : Half} {s : State}
    {data : List Byte} (h : o.toNat < 4089) (hd : s.apdu.readN 0 o.toNat = some data) :
    startTransaction p pcb o e s = .ok (startedState p pcb o e data s) := by
  unfold startTransaction
  rw [if_neg (by simp only [Config.t1MaxOut]; omega), buildFrame_eq hp (data := data) h hd]
  rfl

/-- Everything a start can do once the engine is free (R112, R116, R230). -/
theorem startTransaction_eq {p : Params} (hp : p.Legal) (pcb : Byte) (o e : Half) (s : State) :
    startTransaction p pcb o e s =
      if o.toNat ≥ 4089 then .ok (rejectedState p pcb o e s)
      else match s.apdu.readN 0 o.toNat with
        | some data => .ok (startedState p pcb o e data s)
        | none => .error (.unwritten .apdu 0 o.toNat) := by
  by_cases h : o.toNat ≥ 4089
  · rw [if_pos h, startTransaction_tooLong h]
  · rw [if_neg h]
    cases hd : s.apdu.readN 0 o.toNat with
    | some data => exact startTransaction_accepted hp (by omega) hd
    | none =>
      have hca := capacity_apdu hp
      have hr : memRead p .apdu 0 o.toNat (s.takeRequest p pcb o e) = .error (.unwritten .apdu 0 o.toNat) :=
        memRead_eq_error.mpr (.inl ⟨by omega, hd, rfl⟩)
      unfold startTransaction buildFrame
      rw [if_neg (by simpa [Config.t1MaxOut] using h)]
      simp [hr]

/-- A request on a free engine is a start (R112). -/
theorem transact_free {p : Params} {pcb : Byte} {o e : Half} {s : State} (hb : s.t1busy = false) :
    transact p pcb o e s = startTransaction p pcb o e s := if_neg (by simp [hb])

/-- An I-block request on a free engine toggles `SEQ` and is a start (R140). -/
theorem startIBlock_free {p : Params} {pcb : Byte} {o e : Half} {s : State} (hb : s.t1busy = false) :
    startIBlock p pcb o e s = startTransaction p pcb o e { s with seq := toggleSeq s.seq } := if_neg (by simp [hb])

/-- The I-block row of the present `SEQ` on a free engine (R140). -/
theorem iBlockFor_free {p : Params} {q : Bool} {o e : Half} {s : State} (hb : s.t1busy = false) (hq : s.seq = q) :
    iBlockFor p q o e s = startTransaction p (iBlockPcb q) o e { s with seq := toggleSeq s.seq } := by
  unfold iBlockFor
  rw [startIBlock_free hb]
  simp [hq]

/-- A request while busy is `T1Overlap` (R111, R207). -/
theorem transact_busy {p : Params} {pcb : Byte} {o e : Half} {s : State} (hb : s.t1busy = true) :
    transact p pcb o e s = .error .t1Overlap := if_pos hb

theorem startIBlock_busy {p : Params} {pcb : Byte} {o e : Half} {s : State} (hb : s.t1busy = true) :
    startIBlock p pcb o e s = .error .t1Overlap := if_pos hb

theorem iBlockFor_busy {p : Params} {q : Bool} {o e : Half} {s : State} (hb : s.t1busy = true) :
    iBlockFor p q o e s = .error .t1Overlap := by
  unfold iBlockFor
  rw [startIBlock_busy hb]
  simp [hb]

/-- Everything a write attempt can do (R117): not enabled, no frame to read, hold, success, failure. -/
theorem writeAttempt_eq {p : Params} (hp : p.Legal) (s : State) :
    writeAttempt p s =
      if s.t1state = .write then
        match memRead p .txf 0 s.txfLen.toNat s with
        | .error f => .error f
        | .ok f =>
          match s.i2cWr with
          | [] => .ok s
          | st :: rest =>
            if st = 0 then .ok ((s.tookI2cWr rest (.i2cWrite p.seAddr f st)).enterPhase .rdhdr)
            else .ok (failedState p (s.tookI2cWr rest (.i2cWrite p.seAddr f st)))
      else .ok s := by
  unfold writeAttempt
  by_cases h : s.t1state = .write
  · simp only [h, beq_self_eq_true, whenEnabled_true, if_true]
    cases hm : memRead p .txf 0 s.txfLen.toNat s with
    | error f => rfl
    | ok f =>
      simp only [except_ok_bind, attemptFailed_eq hp]
      cases hu : s.i2cWr <;> rfl
  · have hb : (s.t1state == T1State.write) = false := by simpa using h
    simp [hb, h]

/-- Everything a header attempt can do (R120): not enabled, hold, breach of contract, header, failure. -/
theorem rdhdrAttempt_eq {p : Params} (hp : p.Legal) (s : State) :
    rdhdrAttempt p s =
      if s.t1state = .rdhdr then
        match s.i2cRd with
        | [] => .ok s
        | r :: rest =>
          match r with
          | [nad, pcb, lenHi, lenLo] =>
            .ok (afterHeader p ((s.tookI2cRd rest (.i2cRead p.seAddr 4 r)).setHeader ⟨nad, pcb, lenHi, lenLo⟩))
          | _ =>
            if r.length > 4 then .error (.portContract .i2c)
            else .ok (failedState p (s.tookI2cRd rest (.i2cRead p.seAddr 4 r)))
      else .ok s := by
  unfold rdhdrAttempt
  by_cases h : s.t1state = .rdhdr
  · simp only [h, beq_self_eq_true, whenEnabled_true, if_true, attemptFailed_eq hp]
    rfl
  · have hb : (s.t1state == T1State.rdhdr) = false := by simpa using h
    simp [hb, h]

/-- Everything a body attempt can do while the body fits (R124, R123): not enabled, hold, breach of contract, success,
failure. -/
theorem rdbodyAttempt_eq {p : Params} (hp : p.Legal) {s : State}
    (hfit : s.t1state = .rdbody → bodySize s ≤ p.apduCap) :
    rdbodyAttempt p s =
      if s.t1state = .rdbody then
        match s.i2cRd with
        | [] => .ok s
        | r :: rest =>
          if r.length > bodySize s then .error (.portContract .i2c)
          else if r.length = bodySize s then
            .ok (({ s.tookI2cRd rest (.i2cRead p.seAddr (bodySize s) r) with apdu := s.apdu.writeN 0 r }).complete
              (s.rxDecl.setWidth 32))
          else .ok (failedState p (s.tookI2cRd rest (.i2cRead p.seAddr (bodySize s) r)))
      else .ok s := by
  unfold rdbodyAttempt
  by_cases h : s.t1state = .rdbody
  · simp only [h, beq_self_eq_true, whenEnabled_true, if_true, attemptFailed_eq hp]
    cases hu : s.i2cRd with
    | nil => rfl
    | cons r rest =>
      have hf := hfit h
      simp only
      split
      · rfl
      · split
        · rename_i hl
          rw [memWrite_ok _ (by simp only [capacity]; omega)]
          rfl
        · rfl
  · have hb : (s.t1state == T1State.rdbody) = false := by simpa using h
    simp [hb, h]

end Sys2Proof.Machine
end

