-- ==== Sys2Proof/Laws/Frames.lean ====
section
/-! SUPPORT. The fields that each named outcome of a step leaves as they were, one lemma per field. -/

namespace Sys2Proof.Machine

variable (s : State) (p : Params)

/-! ### `respondedState` -/

@[simp] theorem respondedState_rxb (rt : Byte) (n : Word) (a b c : Byte) :
    (respondedState rt n a b c s).rxb = s.rxb := rfl
@[simp] theorem respondedState_fill (rt : Byte) (n : Word) (a b c : Byte) :
    (respondedState rt n a b c s).fill = s.fill := rfl
@[simp] theorem respondedState_txInflight (rt : Byte) (n : Word) (a b c : Byte) :
    (respondedState rt n a b c s).txInflight = s.txInflight := rfl
@[simp] theorem respondedState_framingErr (rt : Byte) (n : Word) (a b c : Byte) :
    (respondedState rt n a b c s).framingErr = s.framingErr := rfl
@[simp] theorem respondedState_seq (rt : Byte) (n : Word) (a b c : Byte) :
    (respondedState rt n a b c s).seq = s.seq := rfl
@[simp] theorem respondedState_t1state (rt : Byte) (n : Word) (a b c : Byte) :
    (respondedState rt n a b c s).t1state = s.t1state := rfl
@[simp] theorem respondedState_attempt (rt : Byte) (n : Word) (a b c : Byte) :
    (respondedState rt n a b c s).attempt = s.attempt := rfl
@[simp] theorem respondedState_t1pcb (rt : Byte) (n : Word) (a b c : Byte) :
    (respondedState rt n a b c s).t1pcb = s.t1pcb := rfl
@[simp] theorem respondedState_t1outlen (rt : Byte) (n : Word) (a b c : Byte) :
    (respondedState rt n a b c s).t1outlen = s.t1outlen := rfl
@[simp] theorem respondedState_t1explen (rt : Byte) (n : Word) (a b c : Byte) :
    (respondedState rt n a b c s).t1explen = s.t1explen := rfl
@[simp] theorem respondedState_txf (rt : Byte) (n : Word) (a b c : Byte) :
    (respondedState rt n a b c s).txf = s.txf := rfl
@[simp] theorem respondedState_txfLen (rt : Byte) (n : Word) (a b c : Byte) :
    (respondedState rt n a b c s).txfLen = s.txfLen := rfl
@[simp] theorem respondedState_apdu (rt : Byte) (n : Word) (a b c : Byte) :
    (respondedState rt n a b c s).apdu = s.apdu := rfl
@[simp] theorem respondedState_rxHdr (rt : Byte) (n : Word) (a b c : Byte) :
    (respondedState rt n a b c s).rxHdr = s.rxHdr := rfl
@[simp] theorem respondedState_rxDecl (rt : Byte) (n : Word) (a b c : Byte) :
    (respondedState rt n a b c s).rxDecl = s.rxDecl := rfl
@[simp] theorem respondedState_t1result (rt : Byte) (n : Word) (a b c : Byte) :
    (respondedState rt n a b c s).t1result = s.t1result := rfl
@[simp] theorem respondedState_t1busy (rt : Byte) (n : Word) (a b c : Byte) :
    (respondedState rt n a b c s).t1busy = s.t1busy := rfl
@[simp] theorem respondedState_fault (rt : Byte) (n : Word) (a b c : Byte) :
    (respondedState rt n a b c s).fault = s.fault := rfl
@[simp] theorem respondedState_sched (rt : Byte) (n : Word) (a b c : Byte) :
    (respondedState rt n a b c s).sched = s.sched := rfl
@[simp] theorem respondedState_usbRx (rt : Byte) (n : Word) (a b c : Byte) :
    (respondedState rt n a b c s).usbRx = s.usbRx := rfl
@[simp] theorem respondedState_usbTx (rt : Byte) (n : Word) (a b c : Byte) :
    (respondedState rt n a b c s).usbTx = s.usbTx := rfl
@[simp] theorem respondedState_i2cWr (rt : Byte) (n : Word) (a b c : Byte) :
    (respondedState rt n a b c s).i2cWr = s.i2cWr := rfl
@[simp] theorem respondedState_i2cRd (rt : Byte) (n : Word) (a b c : Byte) :
    (respondedState rt n a b c s).i2cRd = s.i2cRd := rfl
@[simp] theorem respondedState_log (rt : Byte) (n : Word) (a b c : Byte) :
    (respondedState rt n a b c s).log = s.log := rfl
@[simp] theorem respondedState_choices (rt : Byte) (n : Word) (a b c : Byte) :
    (respondedState rt n a b c s).choices = s.choices := rfl

/-! ### `startedState` -/

@[simp] theorem startedState_fstate (b : Byte) (o e : Half) (d : List Byte) :
    (startedState p b o e d s).fstate = s.fstate := rfl
@[simp] theorem startedState_rxb (b : Byte) (o e : Half) (d : List Byte) : (startedState p b o e d s).rxb = s.rxb := rfl
@[simp] theorem startedState_fill (b : Byte) (o e : Half) (d : List Byte) :
    (startedState p b o e d s).fill = s.fill := rfl
@[simp] theorem startedState_msg (b : Byte) (o e : Half) (d : List Byte) : (startedState p b o e d s).msg = s.msg := rfl
@[simp] theorem startedState_rspLen (b : Byte) (o e : Half) (d : List Byte) :
    (startedState p b o e d s).rspLen = s.rspLen := rfl
@[simp] theorem startedState_foff (b : Byte) (o e : Half) (d : List Byte) :
    (startedState p b o e d s).foff = s.foff := rfl
@[simp] theorem startedState_txInflight (b : Byte) (o e : Half) (d : List Byte) :
    (startedState p b o e d s).txInflight = s.txInflight := rfl
@[simp] theorem startedState_framingErr (b : Byte) (o e : Half) (d : List Byte) :
    (startedState p b o e d s).framingErr = s.framingErr := rfl
@[simp] theorem startedState_apdu (b : Byte) (o e : Half) (d : List Byte) :
    (startedState p b o e d s).apdu = s.apdu := rfl
@[simp] theorem startedState_rxHdr (b : Byte) (o e : Half) (d : List Byte) :
    (startedState p b o e d s).rxHdr = s.rxHdr := rfl
@[simp] theorem startedState_rxDecl (b : Byte) (o e : Half) (d : List Byte) :
    (startedState p b o e d s).rxDecl = s.rxDecl := rfl
@[simp] theorem startedState_t1result (b : Byte) (o e : Half) (d : List Byte) :
    (startedState p b o e d s).t1result = s.t1result := rfl
@[simp] theorem startedState_fault (b : Byte) (o e : Half) (d : List Byte) :
    (startedState p b o e d s).fault = s.fault := rfl
@[simp] theorem startedState_sched (b : Byte) (o e : Half) (d : List Byte) :
    (startedState p b o e d s).sched = s.sched := rfl
@[simp] theorem startedState_usbRx (b : Byte) (o e : Half) (d : List Byte) :
    (startedState p b o e d s).usbRx = s.usbRx := rfl
@[simp] theorem startedState_usbTx (b : Byte) (o e : Half) (d : List Byte) :
    (startedState p b o e d s).usbTx = s.usbTx := rfl
@[simp] theorem startedState_i2cWr (b : Byte) (o e : Half) (d : List Byte) :
    (startedState p b o e d s).i2cWr = s.i2cWr := rfl
@[simp] theorem startedState_i2cRd (b : Byte) (o e : Half) (d : List Byte) :
    (startedState p b o e d s).i2cRd = s.i2cRd := rfl
@[simp] theorem startedState_log (b : Byte) (o e : Half) (d : List Byte) : (startedState p b o e d s).log = s.log := rfl
@[simp] theorem startedState_choices (b : Byte) (o e : Half) (d : List Byte) :
    (startedState p b o e d s).choices = s.choices := rfl

/-! ### `rejectedState` -/

@[simp] theorem rejectedState_fstate (b : Byte) (o e : Half) : (rejectedState p b o e s).fstate = s.fstate := rfl
@[simp] theorem rejectedState_rxb (b : Byte) (o e : Half) : (rejectedState p b o e s).rxb = s.rxb := rfl
@[simp] theorem rejectedState_fill (b : Byte) (o e : Half) : (rejectedState p b o e s).fill = s.fill := rfl
@[simp] theorem rejectedState_msg (b : Byte) (o e : Half) : (rejectedState p b o e s).msg = s.msg := rfl
@[simp] theorem rejectedState_rspLen (b : Byte) (o e : Half) : (rejectedState p b o e s).rspLen = s.rspLen := rfl
@[simp] theorem rejectedState_foff (b : Byte) (o e : Half) : (rejectedState p b o e s).foff = s.foff := rfl
@[simp] theorem rejectedState_txInflight (b : Byte) (o e : Half) :
    (rejectedState p b o e s).txInflight = s.txInflight := rfl
@[simp] theorem rejectedState_framingErr (b : Byte) (o e : Half) :
    (rejectedState p b o e s).framingErr = s.framingErr := rfl
@[simp] theorem rejectedState_attempt (b : Byte) (o e : Half) : (rejectedState p b o e s).attempt = s.attempt := rfl
@[simp] theorem rejectedState_txf (b : Byte) (o e : Half) : (rejectedState p b o e s).txf = s.txf := rfl
@[simp] theorem rejectedState_txfLen (b : Byte) (o e : Half) : (rejectedState p b o e s).txfLen = s.txfLen := rfl
@[simp] theorem rejectedState_apdu (b : Byte) (o e : Half) : (rejectedState p b o e s).apdu = s.apdu := rfl
@[simp] theorem rejectedState_rxHdr (b : Byte) (o e : Half) : (rejectedState p b o e s).rxHdr = s.rxHdr := rfl
@[simp] theorem rejectedState_rxDecl (b : Byte) (o e : Half) : (rejectedState p b o e s).rxDecl = s.rxDecl := rfl
@[simp] theorem rejectedState_fault (b : Byte) (o e : Half) : (rejectedState p b o e s).fault = s.fault := rfl
@[simp] theorem rejectedState_sched (b : Byte) (o e : Half) : (rejectedState p b o e s).sched = s.sched := rfl
@[simp] theorem rejectedState_usbRx (b : Byte) (o e : Half) : (rejectedState p b o e s).usbRx = s.usbRx := rfl
@[simp] theorem rejectedState_usbTx (b : Byte) (o e : Half) : (rejectedState p b o e s).usbTx = s.usbTx := rfl
@[simp] theorem rejectedState_i2cWr (b : Byte) (o e : Half) : (rejectedState p b o e s).i2cWr = s.i2cWr := rfl
@[simp] theorem rejectedState_i2cRd (b : Byte) (o e : Half) : (rejectedState p b o e s).i2cRd = s.i2cRd := rfl
@[simp] theorem rejectedState_choices (b : Byte) (o e : Half) : (rejectedState p b o e s).choices = s.choices := rfl

/-! ### `yieldedState` -/

@[simp] theorem yieldedState_rspLen (m k : List Byte) : (yieldedState s m k).rspLen = s.rspLen := rfl
@[simp] theorem yieldedState_foff (m k : List Byte) : (yieldedState s m k).foff = s.foff := rfl
@[simp] theorem yieldedState_txInflight (m k : List Byte) : (yieldedState s m k).txInflight = s.txInflight := rfl
@[simp] theorem yieldedState_framingErr (m k : List Byte) : (yieldedState s m k).framingErr = s.framingErr := rfl
@[simp] theorem yieldedState_seq (m k : List Byte) : (yieldedState s m k).seq = s.seq := rfl
@[simp] theorem yieldedState_t1state (m k : List Byte) : (yieldedState s m k).t1state = s.t1state := rfl
@[simp] theorem yieldedState_attempt (m k : List Byte) : (yieldedState s m k).attempt = s.attempt := rfl
@[simp] theorem yieldedState_t1pcb (m k : List Byte) : (yieldedState s m k).t1pcb = s.t1pcb := rfl
@[simp] theorem yieldedState_t1outlen (m k : List Byte) : (yieldedState s m k).t1outlen = s.t1outlen := rfl
@[simp] theorem yieldedState_t1explen (m k : List Byte) : (yieldedState s m k).t1explen = s.t1explen := rfl
@[simp] theorem yieldedState_txf (m k : List Byte) : (yieldedState s m k).txf = s.txf := rfl
@[simp] theorem yieldedState_txfLen (m k : List Byte) : (yieldedState s m k).txfLen = s.txfLen := rfl
@[simp] theorem yieldedState_apdu (m k : List Byte) : (yieldedState s m k).apdu = s.apdu := rfl
@[simp] theorem yieldedState_rxHdr (m k : List Byte) : (yieldedState s m k).rxHdr = s.rxHdr := rfl
@[simp] theorem yieldedState_rxDecl (m k : List Byte) : (yieldedState s m k).rxDecl = s.rxDecl := rfl
@[simp] theorem yieldedState_t1result (m k : List Byte) : (yieldedState s m k).t1result = s.t1result := rfl
@[simp] theorem yieldedState_t1busy (m k : List Byte) : (yieldedState s m k).t1busy = s.t1busy := rfl
@[simp] theorem yieldedState_fault (m k : List Byte) : (yieldedState s m k).fault = s.fault := rfl
@[simp] theorem yieldedState_sched (m k : List Byte) : (yieldedState s m k).sched = s.sched := rfl
@[simp] theorem yieldedState_usbRx (m k : List Byte) : (yieldedState s m k).usbRx = s.usbRx := rfl
@[simp] theorem yieldedState_usbTx (m k : List Byte) : (yieldedState s m k).usbTx = s.usbTx := rfl
@[simp] theorem yieldedState_i2cWr (m k : List Byte) : (yieldedState s m k).i2cWr = s.i2cWr := rfl
@[simp] theorem yieldedState_i2cRd (m k : List Byte) : (yieldedState s m k).i2cRd = s.i2cRd := rfl
@[simp] theorem yieldedState_log (m k : List Byte) : (yieldedState s m k).log = s.log := rfl
@[simp] theorem yieldedState_choices (m k : List Byte) : (yieldedState s m k).choices = s.choices := rfl

/-! ### `failedState` -/

@[simp] theorem failedState_fstate : (failedState p s).fstate = s.fstate := by unfold failedState; split <;> rfl
@[simp] theorem failedState_rxb : (failedState p s).rxb = s.rxb := by unfold failedState; split <;> rfl
@[simp] theorem failedState_fill : (failedState p s).fill = s.fill := by unfold failedState; split <;> rfl
@[simp] theorem failedState_msg : (failedState p s).msg = s.msg := by unfold failedState; split <;> rfl
@[simp] theorem failedState_rspLen : (failedState p s).rspLen = s.rspLen := by unfold failedState; split <;> rfl
@[simp] theorem failedState_foff : (failedState p s).foff = s.foff := by unfold failedState; split <;> rfl
@[simp] theorem failedState_txInflight :
    (failedState p s).txInflight = s.txInflight := by unfold failedState; split <;> rfl
@[simp] theorem failedState_framingErr :
    (failedState p s).framingErr = s.framingErr := by unfold failedState; split <;> rfl
@[simp] theorem failedState_seq : (failedState p s).seq = s.seq := by unfold failedState; split <;> rfl
@[simp] theorem failedState_t1pcb : (failedState p s).t1pcb = s.t1pcb := by unfold failedState; split <;> rfl
@[simp] theorem failedState_t1outlen : (failedState p s).t1outlen = s.t1outlen := by unfold failedState; split <;> rfl
@[simp] theorem failedState_t1explen : (failedState p s).t1explen = s.t1explen := by unfold failedState; split <;> rfl
@[simp] theorem failedState_txf : (failedState p s).txf = s.txf := by unfold failedState; split <;> rfl
@[simp] theorem failedState_txfLen : (failedState p s).txfLen = s.txfLen := by unfold failedState; split <;> rfl
@[simp] theorem failedState_rxHdr : (failedState p s).rxHdr = s.rxHdr := by unfold failedState; split <;> rfl
@[simp] theorem failedState_rxDecl : (failedState p s).rxDecl = s.rxDecl := by unfold failedState; split <;> rfl
@[simp] theorem failedState_fault : (failedState p s).fault = s.fault := by unfold failedState; split <;> rfl
@[simp] theorem failedState_sched : (failedState p s).sched = s.sched := by unfold failedState; split <;> rfl
@[simp] theorem failedState_usbRx : (failedState p s).usbRx = s.usbRx := by unfold failedState; split <;> rfl
@[simp] theorem failedState_usbTx : (failedState p s).usbTx = s.usbTx := by unfold failedState; split <;> rfl
@[simp] theorem failedState_i2cWr : (failedState p s).i2cWr = s.i2cWr := by unfold failedState; split <;> rfl
@[simp] theorem failedState_i2cRd : (failedState p s).i2cRd = s.i2cRd := by unfold failedState; split <;> rfl
@[simp] theorem failedState_choices : (failedState p s).choices = s.choices := by unfold failedState; split <;> rfl

/-! ### `afterHeader` -/

@[simp] theorem afterHeader_fstate :
    (afterHeader p s).fstate = s.fstate := by unfold afterHeader; (repeat' split) <;> rfl
@[simp] theorem afterHeader_rxb : (afterHeader p s).rxb = s.rxb := by unfold afterHeader; (repeat' split) <;> rfl
@[simp] theorem afterHeader_fill : (afterHeader p s).fill = s.fill := by unfold afterHeader; (repeat' split) <;> rfl
@[simp] theorem afterHeader_msg : (afterHeader p s).msg = s.msg := by unfold afterHeader; (repeat' split) <;> rfl
@[simp] theorem afterHeader_rspLen :
    (afterHeader p s).rspLen = s.rspLen := by unfold afterHeader; (repeat' split) <;> rfl
@[simp] theorem afterHeader_foff : (afterHeader p s).foff = s.foff := by unfold afterHeader; (repeat' split) <;> rfl
@[simp] theorem afterHeader_txInflight :
    (afterHeader p s).txInflight = s.txInflight := by unfold afterHeader; (repeat' split) <;> rfl
@[simp] theorem afterHeader_framingErr :
    (afterHeader p s).framingErr = s.framingErr := by unfold afterHeader; (repeat' split) <;> rfl
@[simp] theorem afterHeader_seq : (afterHeader p s).seq = s.seq := by unfold afterHeader; (repeat' split) <;> rfl
@[simp] theorem afterHeader_t1pcb : (afterHeader p s).t1pcb = s.t1pcb := by unfold afterHeader; (repeat' split) <;> rfl
@[simp] theorem afterHeader_t1outlen :
    (afterHeader p s).t1outlen = s.t1outlen := by unfold afterHeader; (repeat' split) <;> rfl
@[simp] theorem afterHeader_t1explen :
    (afterHeader p s).t1explen = s.t1explen := by unfold afterHeader; (repeat' split) <;> rfl
@[simp] theorem afterHeader_txf : (afterHeader p s).txf = s.txf := by unfold afterHeader; (repeat' split) <;> rfl
@[simp] theorem afterHeader_txfLen :
    (afterHeader p s).txfLen = s.txfLen := by unfold afterHeader; (repeat' split) <;> rfl
@[simp] theorem afterHeader_apdu : (afterHeader p s).apdu = s.apdu := by unfold afterHeader; (repeat' split) <;> rfl
@[simp] theorem afterHeader_rxHdr : (afterHeader p s).rxHdr = s.rxHdr := by unfold afterHeader; (repeat' split) <;> rfl
@[simp] theorem afterHeader_rxDecl :
    (afterHeader p s).rxDecl = s.rxDecl := by unfold afterHeader; (repeat' split) <;> rfl
@[simp] theorem afterHeader_fault : (afterHeader p s).fault = s.fault := by unfold afterHeader; (repeat' split) <;> rfl
@[simp] theorem afterHeader_sched : (afterHeader p s).sched = s.sched := by unfold afterHeader; (repeat' split) <;> rfl
@[simp] theorem afterHeader_usbRx : (afterHeader p s).usbRx = s.usbRx := by unfold afterHeader; (repeat' split) <;> rfl
@[simp] theorem afterHeader_usbTx : (afterHeader p s).usbTx = s.usbTx := by unfold afterHeader; (repeat' split) <;> rfl
@[simp] theorem afterHeader_i2cWr : (afterHeader p s).i2cWr = s.i2cWr := by unfold afterHeader; (repeat' split) <;> rfl
@[simp] theorem afterHeader_i2cRd : (afterHeader p s).i2cRd = s.i2cRd := by unfold afterHeader; (repeat' split) <;> rfl
@[simp] theorem afterHeader_choices :
    (afterHeader p s).choices = s.choices := by unfold afterHeader; (repeat' split) <;> rfl

/-! ### `discard` -/

@[simp] theorem discard_fstate : (discard s).fstate = s.fstate := rfl
@[simp] theorem discard_rxb : (discard s).rxb = s.rxb := rfl
@[simp] theorem discard_msg : (discard s).msg = s.msg := rfl
@[simp] theorem discard_rspLen : (discard s).rspLen = s.rspLen := rfl
@[simp] theorem discard_foff : (discard s).foff = s.foff := rfl
@[simp] theorem discard_txInflight : (discard s).txInflight = s.txInflight := rfl
@[simp] theorem discard_seq : (discard s).seq = s.seq := rfl
@[simp] theorem discard_t1state : (discard s).t1state = s.t1state := rfl
@[simp] theorem discard_attempt : (discard s).attempt = s.attempt := rfl
@[simp] theorem discard_t1pcb : (discard s).t1pcb = s.t1pcb := rfl
@[simp] theorem discard_t1outlen : (discard s).t1outlen = s.t1outlen := rfl
@[simp] theorem discard_t1explen : (discard s).t1explen = s.t1explen := rfl
@[simp] theorem discard_txf : (discard s).txf = s.txf := rfl
@[simp] theorem discard_txfLen : (discard s).txfLen = s.txfLen := rfl
@[simp] theorem discard_apdu : (discard s).apdu = s.apdu := rfl
@[simp] theorem discard_rxHdr : (discard s).rxHdr = s.rxHdr := rfl
@[simp] theorem discard_rxDecl : (discard s).rxDecl = s.rxDecl := rfl
@[simp] theorem discard_t1result : (discard s).t1result = s.t1result := rfl
@[simp] theorem discard_t1busy : (discard s).t1busy = s.t1busy := rfl
@[simp] theorem discard_fault : (discard s).fault = s.fault := rfl
@[simp] theorem discard_sched : (discard s).sched = s.sched := rfl
@[simp] theorem discard_usbRx : (discard s).usbRx = s.usbRx := rfl
@[simp] theorem discard_usbTx : (discard s).usbTx = s.usbTx := rfl
@[simp] theorem discard_i2cWr : (discard s).i2cWr = s.i2cWr := rfl
@[simp] theorem discard_i2cRd : (discard s).i2cRd = s.i2cRd := rfl
@[simp] theorem discard_log : (discard s).log = s.log := rfl
@[simp] theorem discard_choices : (discard s).choices = s.choices := rfl

end Sys2Proof.Machine
end

