-- ==== Sys2Proof/Laws/PerInstr.lean ====
section
/-! SUPPORT. One statement per row of the table: the byte the encoder puts where the table's "match" stands (the type byte
of a message or response, the PCB of a frame), and no encoding for the rows the table selects "by port request or by
engine state, not by bits". -/

namespace Sys2Proof.Laws.RowBits

/-- The byte of a coded operation that the table's mask 0xFF covers. -/
def opByte : Coded → Option Byte
  | .message bs => bs.head?
  | .response bs => bs.head?
  | .frame pcb _ _ => some pcb

/-- The "match" of an operation's row, written out from spec/opcode_table.json; an UNKNOWN command's own type byte, the
parameter `PCB_RESET`, and any other PCB where the row leaves the byte open. -/
def rowByte (p : Params) : Instr → Option Byte
  | .powerOn _ => some 0x62
  | .powerOff _ => some 0x63
  | .getSlotStatus _ => some 0x65
  | .xfrBlock _ => some 0x6F
  | .getParameters _ => some 0x6C
  | .resetParameters _ => some 0x6D
  | .setParameters _ => some 0x61
  | .unknown t _ => some t
  | .rspDataBlock _ => some 0x80
  | .rspSlotStatus _ => some 0x81
  | .rspParameters _ => some 0x82
  | .iBlockNs0 _ _ => some 0x00
  | .iBlockNs1 _ _ => some 0x40
  | .ctrlReset _ _ => some p.pcbReset
  | .anyPcb pcb _ _ => some pcb
  | .t1Transact _ _ _ => none
  | .t1TransactApdu _ _ => none
  | .crc16 _ _ => none
  | .frameCrc _ => none
  | .reassemble => none
  | .dispatch => none
  | .xfrBlockAnswerOk _ => none
  | .xfrBlockAnswerFail _ => none
  | .flushChunk => none
  | .t1WriteAttempt => none
  | .t1RdhdrAttempt => none
  | .t1RdbodyAttempt => none
  | .txComplete => none

/-- The encoder puts the row's byte in place, or gives the row no encoding. -/
def Statement (i : Instr) : Prop := ∀ p : Params, (encode p i).bind opByte = rowByte p i

theorem powerOn (m : CcidCommand) : Statement (.powerOn m) := fun _ => rfl
theorem powerOff (m : CcidCommand) : Statement (.powerOff m) := fun _ => rfl
theorem getSlotStatus (m : CcidCommand) : Statement (.getSlotStatus m) := fun _ => rfl
theorem xfrBlock (m : CcidCommand) : Statement (.xfrBlock m) := fun _ => rfl
theorem getParameters (m : CcidCommand) : Statement (.getParameters m) := fun _ => rfl
theorem resetParameters (m : CcidCommand) : Statement (.resetParameters m) := fun _ => rfl
theorem setParameters (m : CcidCommand) : Statement (.setParameters m) := fun _ => rfl
theorem unknown (t : Byte) (m : CcidCommand) : Statement (.unknown t m) := fun _ => rfl
theorem rspDataBlock (r : CcidResponse) : Statement (.rspDataBlock r) := fun _ => rfl
theorem rspSlotStatus (r : CcidResponse) : Statement (.rspSlotStatus r) := fun _ => rfl
theorem rspParameters (r : CcidResponse) : Statement (.rspParameters r) := fun _ => rfl
theorem iBlockNs0 (o e : Half) : Statement (.iBlockNs0 o e) := fun _ => rfl
theorem iBlockNs1 (o e : Half) : Statement (.iBlockNs1 o e) := fun _ => rfl
theorem ctrlReset (o e : Half) : Statement (.ctrlReset o e) := fun _ => rfl
theorem anyPcb (pcb : Byte) (o e : Half) : Statement (.anyPcb pcb o e) := fun _ => rfl
theorem t1Transact (pcb : Byte) (o e : Half) : Statement (.t1Transact pcb o e) := fun _ => rfl
theorem t1TransactApdu (n e : Half) : Statement (.t1TransactApdu n e) := fun _ => rfl
theorem crc16 (data : List Byte) (seed : Half) : Statement (.crc16 data seed) := fun _ => rfl
theorem frameCrc (f : List Byte) : Statement (.frameCrc f) := fun _ => rfl
theorem reassemble : Statement .reassemble := fun _ => rfl
theorem dispatch : Statement .dispatch := fun _ => rfl
theorem xfrBlockAnswerOk (rv : Word) : Statement (.xfrBlockAnswerOk rv) := fun _ => rfl
theorem xfrBlockAnswerFail (rv : Word) : Statement (.xfrBlockAnswerFail rv) := fun _ => rfl
theorem flushChunk : Statement .flushChunk := fun _ => rfl
theorem t1WriteAttempt : Statement .t1WriteAttempt := fun _ => rfl
theorem t1RdhdrAttempt : Statement .t1RdhdrAttempt := fun _ => rfl
theorem t1RdbodyAttempt : Statement .t1RdbodyAttempt := fun _ => rfl
theorem txComplete : Statement .txComplete := fun _ => rfl

end Sys2Proof.Laws.RowBits
end

