-- ==== Sys2Proof/Laws/Step.lean ====
section
/-! SUPPORT. What an operation and a step can do, said once: `effect` is an operation's effect before it is settled,
`Did` lists everything it can end in, `step_cases` everything a step can be. -/

namespace Sys2Proof.Machine

open Sys2Proof.Safety (isStart answersInBuild isProcessorAnswer)

/-- An operation's effect on a state: the state it ends in or the fault it raises. -/
def effect (i : Instr) (s : State) : Except Fault State :=
  match i with
  | .powerOn _ => powerOn Config.params s
  | .powerOff _ => powerOff Config.params s
  | .getSlotStatus _ => getSlotStatus Config.params s
  | .xfrBlock _ => xfrBlockStart Config.params s
  | .getParameters _ => getParameters Config.params s
  | .resetParameters _ => resetParameters Config.params s
  | .setParameters _ => setParameters Config.params s
  | .unknown _ _ => unknownCommand Config.params s
  | .rspDataBlock r => respondRow Config.params Config.rspDataBlock r s
  | .rspSlotStatus r => respondRow Config.params Config.rspSlotStatus r s
  | .rspParameters r => respondRow Config.params Config.rspParameters r s
  | .iBlockNs0 o e => iBlockFor Config.params false o e s
  | .iBlockNs1 o e => iBlockFor Config.params true o e s
  | .ctrlReset o e => transact Config.params Config.params.pcbReset o e s
  | .anyPcb pcb o e => transact Config.params pcb o e s
  | .t1Transact pcb o e => transact Config.params pcb o e s
  | .t1TransactApdu n e => transactApdu Config.params n e s
  | .crc16 data seed => .ok (s.record (.crcAnswer (crc16 data seed)))
  | .frameCrc f => .ok (s.record (.frameCrcAnswer (frameCrc f)))
  | .reassemble => reassemble Config.params s
  | .dispatch => dispatch Config.params s
  | .xfrBlockAnswerOk rv => answerOk Config.params rv s
  | .xfrBlockAnswerFail rv => answerFail Config.params rv s
  | .flushChunk => flushChunk Config.params s
  | .t1WriteAttempt => writeAttempt Config.params s
  | .t1RdhdrAttempt => rdhdrAttempt Config.params s
  | .t1RdbodyAttempt => rdbodyAttempt Config.params s
  | .txComplete => txComplete s

theorem exec_eq (i : Instr) (s : State) : exec i s = settle s (effect i s) := by cases i <;> rfl

/-- Every operation answers a next state: its effect, or the state with the fault it raises recorded. -/
theorem exec_eq_next {i : Instr} {s t : State} :
    exec i s = .next t ↔ effect i s = .ok t ∨ ∃ f, effect i s = .error f ∧ t = s.raise f := by
  rw [exec_eq]; exact settle_eq_next

theorem exec_isNext (i : Instr) (s : State) : ∃ t, exec i s = .next t := by
  rw [exec_eq]; cases effect i s <;> exact ⟨_, rfl⟩

/-- Everything an operation without a fault can end in. -/
inductive Did (i : Instr) (s : State) : State → Prop
  /-- Not enabled, or its port request holds. -/
  | nothing : Did i s s
  /-- A response header was written, after the power-on payload or not (R172): in BUILD, or by the processor's answer. -/
  | answer (rtype : Byte) (len : Word) (status error param : Byte) (m : Memory)
      (hs : (s.fstate = .build ∧ answersInBuild i = true) ∨ (s.fstate = .process ∧ isProcessorAnswer i = true)) (hm : m = s.msg ∨ m = s.msg.writeN 10 Config.atrBytes)
      (hl : i.wf Config.params = true → len.toNat ≤ Config.params.msgPayloadCap) (hi : isStart i = false)
      (hx : i ≠ .txComplete) : Did i s (respondedState rtype len status error param { s with msg := m })
  /-- The processor was asked (R178). -/
  | process (len : Word) (hs : s.fstate = .build) (hj : i = .dispatch ∨ ∃ m, i = .xfrBlock m) (hi : isStart i = false) (hx : i ≠ .txComplete) :
      Did i s { s.record (.process len) with fstate := .process }
  /-- The CRC engine answered (R102, R103). -/
  | crc (a : PortAct) (ha : (∃ c, a = .crcAnswer c) ∨ ∃ c, a = .frameCrcAnswer c) (hi : isStart i = false)
      (hx : i ≠ .txComplete) : Did i s (s.record a)
  /-- A start was rejected as too long (R116); `q` is `SEQ` after an I-block's toggle. -/
  | reject (pcb : Byte) (o e : Half) (q : Bool) (hb : s.t1busy = false) (hi : isStart i = true) (ho : 4089 ≤ o.toNat) :
      Did i s (rejectedState Config.params pcb o e { s with seq := q })
  /-- A transaction was started (R112). -/
  | start (pcb : Byte) (o e : Half) (q : Bool) (data : List Byte) (hb : s.t1busy = false) (hi : isStart i = true)
      (ho : o.toNat < 4089) (hd : s.apdu.readN 0 o.toNat = some data) :
      Did i s (startedState Config.params pcb o e data { s with seq := q })
  /-- A write attempt succeeded (R117). -/
  | wrote (f : List Byte) (rest : List Int) (hs : s.t1state = .write) (hu : s.i2cWr = 0 :: rest)
      (hi : i = .t1WriteAttempt) :
      Did i s ((s.tookI2cWr rest (.i2cWrite Config.params.seAddr f 0)).enterPhase .rdhdr)
  /-- A write attempt failed (R118). -/
  | writeFailed (f : List Byte) (st : Int) (rest : List Int) (hs : s.t1state = .write) (hu : s.i2cWr = st :: rest)
      (hst : st ≠ 0) (hi : i = .t1WriteAttempt) :
      Did i s (failedState Config.params (s.tookI2cWr rest (.i2cWrite Config.params.seAddr f st)))
  /-- A whole header was read (R120). -/
  | header (nad pcb lenHi lenLo : Byte) (rest : List (List Byte)) (hs : s.t1state = .rdhdr)
      (hu : s.i2cRd = [nad, pcb, lenHi, lenLo] :: rest) (hi : i = .t1RdhdrAttempt) :
      Did i s (afterHeader Config.params ((s.tookI2cRd rest
        (.i2cRead Config.params.seAddr 4 [nad, pcb, lenHi, lenLo])).setHeader ⟨nad, pcb, lenHi, lenLo⟩))
  /-- A read attempt failed (R118). -/
  | readFailed (n : Nat) (r : List Byte) (rest : List (List Byte)) (hs : s.t1state = .rdhdr ∨ s.t1state = .rdbody)
      (hu : s.i2cRd = r :: rest) (hr : r.length < n) (hi : i = .t1RdhdrAttempt ∨ i = .t1RdbodyAttempt) :
      Did i s (failedState Config.params (s.tookI2cRd rest (.i2cRead Config.params.seAddr n r)))
  /-- A whole body was read (R124). -/
  | body (r : List Byte) (rest : List (List Byte)) (hs : s.t1state = .rdbody) (hu : s.i2cRd = r :: rest)
      (hr : r.length = bodySize s) (hc : bodySize s ≤ Config.params.apduCap) (hi : i = .t1RdbodyAttempt) :
      Did i s (({ s.tookI2cRd rest (.i2cRead Config.params.seAddr (bodySize s) r) with
        apdu := s.apdu.writeN 0 r }).complete (s.rxDecl.setWidth 32))
  /-- Bytes were read into `RXB` (R152). -/
  | readMore (c : List Byte) (rest : List (List Byte)) (hs : s.fstate = .await) (hu : s.usbRx = c :: rest)
      (hc : 1 ≤ c.length) (hf : s.fill + c.length ≤ Config.params.rxCap) (hi : i = .reassemble) :
      Did i s ((s.setBuf .rxb (s.rxb.writeN s.fill c)).tookUsbRx Config.params rest c)
  /-- A header with a length above 1024 was discarded (R156). -/
  | discard (len : Word) (hs : s.fstate = .await) (hf : 10 ≤ s.fill) (hr : rxbLength Config.params s = .ok len)
      (hl : 1024 < len.toNat) (hi : i = .reassemble) : Did i s (discard s)
  /-- A message was yielded (R155). -/
  | yield (bs : List Byte) (n : Nat) (hs : s.fstate = .await) (hf : s.fill ≤ Config.params.rxCap)
      (hr : s.rxb.readN 0 s.fill = some bs) (h10 : 10 ≤ n) (hn : n ≤ 1034) (hb : n ≤ s.fill) (hi : i = .reassemble) :
      Did i s (yieldedState s (bs.take n) (bs.drop n))
  /-- A chunk was offered (R190). -/
  | chunk (cs : List Byte) (a : Nat) (rest : List Nat) (hs : s.fstate = .flush) (hx : s.txInflight = false)
      (hu : s.usbTx = a :: rest) (ha : a ≤ chunkSize Config.params s)
      (hr : s.msg.readN s.foff (chunkSize Config.params s) = some cs) (hi : i = .flushChunk) :
      Did i s (s.tookUsbTx rest cs a)
  /-- The chunk in flight has left (R213). -/
  | txDone (hx : s.txInflight = true) (hi : i = .txComplete) : Did i s s.releaseTx

/-- A yield that completes read every buffered byte (R155). -/
theorem yieldMessage_ok {p : Params} (hp : p.Legal) {s t : State} {n : Nat} (hn : n ≤ 1034) (hb : n ≤ s.fill)
    (h : yieldMessage p n s = .ok t) :
    ∃ bs, s.fill ≤ p.rxCap ∧ s.rxb.readN 0 s.fill = some bs ∧ t = yieldedState s (bs.take n) (bs.drop n) := by
  have h' := h
  simp only [yieldMessage, except_bind_eq_ok, memRead_eq_ok, memWrite_eq_ok] at h'
  obtain ⟨m, ⟨hc, hm⟩, u, ⟨-, rfl⟩, kept, ⟨hc2, hk⟩, -⟩ := h'
  have hf : s.fill ≤ p.rxCap := by simp only [capacity] at hc2; omega
  have hall : (s.rxb.readN 0 s.fill).isSome := Memory.readN_isSome.mpr fun k hkf => by
    by_cases hkn : k < n
    · exact Memory.readN_isSome.mp (Option.isSome_of_mem hm) k hkn
    · have := Memory.readN_isSome.mp (Option.isSome_of_mem hk) (k - n) (by omega)
      rw [show n + (k - n) = 0 + k by omega] at this
      exact this
  obtain ⟨bs, hbs⟩ := Option.isSome_iff_exists.mp hall
  rw [yieldMessage_eq hp hbs hf hb hn] at h
  exact ⟨bs, hf, hbs, (Except.ok.inj h).symm⟩

theorem did_command {i : Instr} {s t : State} (rtype : Byte) (status param : Byte) (ha : answersInBuild i = true)
    (hi : isStart i = false) (hx : i ≠ .txComplete)
    (h : (.ok (if s.fstate = .build then respondedState rtype 0 status 0x00 param s else s) : Except Fault State) =
      .ok t) : Did i s t := by
  cases Except.ok.inj h
  split
  · rename_i hb
    exact .answer rtype 0 status 0x00 param s.msg (.inl ⟨hb, ha⟩) (.inl rfl) (fun _ => Nat.zero_le _) hi hx
  · exact .nothing

theorem did_powerOn {i : Instr} {s t : State} (ha : answersInBuild i = true) (hi : isStart i = false)
    (hx : i ≠ .txComplete)
    (h : powerOn Config.params s = .ok t) : Did i s t := by
  rw [powerOn_eq Config.params_legal] at h
  cases Except.ok.inj h
  split
  · rename_i hb
    have := Config.params_legal.msgPayloadCap
    exact .answer _ 4 _ _ _ _ (.inl ⟨hb, ha⟩) (.inr rfl) (fun _ => by
      rw [show (4 : Word).toNat = 4 from rfl]; omega) hi hx
  · exact .nothing

theorem did_xfrBlock {i : Instr} {s t : State} (hj : i = .dispatch ∨ ∃ m, i = .xfrBlock m) (hi : isStart i = false)
    (hx : i ≠ .txComplete)
    (h : xfrBlockStart Config.params s = .ok t) : Did i s t := by
  rw [xfrBlockStart_eq] at h
  split at h
  · rename_i hb
    split at h
    · cases Except.ok.inj h; exact .process _ hb hj hi hx
    · cases h
  · cases Except.ok.inj h; exact .nothing

theorem did_header {i : Instr} {s t : State} (rtype status param : Byte) (ha : answersInBuild i = true)
    (hi : isStart i = false) (hx : i ≠ .txComplete) (h : whenEnabled (s.fstate == .build) s (respond Config.params rtype 0 status 0x00 param s) =
      .ok t) : Did i s t := by
  rw [headerCommand_eq Config.params_legal] at h
  exact did_command _ _ _ ha hi hx h

theorem did_runCommand {s t : State} (k : CommandKind) (h : runCommand Config.params k s = .ok t) :
    Did .dispatch s t := by
  cases k with
  | powerOn => exact did_powerOn rfl rfl (by simp) h
  | xfrBlock => exact did_xfrBlock (.inl rfl) rfl (by simp) h
  | powerOff => exact did_header _ _ _ rfl rfl (by simp) h
  | getSlotStatus => exact did_header _ _ _ rfl rfl (by simp) h
  | getParameters => exact did_header _ _ _ rfl rfl (by simp) h
  | resetParameters => exact did_header _ _ _ rfl rfl (by simp) h
  | setParameters => exact did_header _ _ _ rfl rfl (by simp) h
  | unknown => exact did_header _ _ _ rfl rfl (by simp) h

theorem did_dispatch {s t : State} (h : dispatch Config.params s = .ok t) : Did .dispatch s t := by
  rcases whenEnabled_eq_ok.mp h with ⟨-, h⟩ | ⟨-, rfl⟩
  · obtain ⟨_, -, h⟩ := except_bind_eq_ok.mp h
    exact did_runCommand _ h
  · exact .nothing

theorem did_respondRow {i : Instr} {s t : State} {rtype : Byte} {r : CcidResponse} (ha : answersInBuild i = true)
    (hi : isStart i = false) (hx : i ≠ .txComplete) (hw : i.wf Config.params = r.wf Config.params)
    (h : respondRow Config.params rtype r s = .ok t) : Did i s t := by
  rw [respondRow_eq Config.params_legal] at h
  cases Except.ok.inj h
  split
  · rename_i hb
    exact .answer _ _ _ _ _ _ (.inl ⟨hb, ha⟩) (.inl rfl) (fun h' => of_decide_eq_true (hw.symm.trans h')) hi hx
  · exact .nothing

theorem did_startTransaction {i : Instr} {s t : State} {pcb : Byte} {o e : Half} {q : Bool} (hb : s.t1busy = false)
    (hi : isStart i = true) (h : startTransaction Config.params pcb o e { s with seq := q } = .ok t) : Did i s t := by
  rw [startTransaction_eq Config.params_legal] at h
  split at h
  · cases Except.ok.inj h; exact .reject _ _ _ _ hb hi ‹_›
  · split at h
    · cases Except.ok.inj h; exact .start _ _ _ _ _ hb hi (by omega) ‹_›
    · cases h

theorem did_transact {i : Instr} {s t : State} {pcb : Byte} {o e : Half} (hi : isStart i = true)
    (h : transact Config.params pcb o e s = .ok t) : Did i s t := by
  unfold transact at h
  split at h
  · cases h
  · exact did_startTransaction (q := s.seq) (by simpa using ‹¬ s.t1busy = true›) hi h

theorem did_startIBlock {i : Instr} {s t : State} {pcb : Byte} {o e : Half} (hi : isStart i = true)
    (h : startIBlock Config.params pcb o e s = .ok t) : Did i s t := by
  unfold startIBlock at h
  split at h
  · cases h
  · exact did_startTransaction (by simpa using ‹¬ s.t1busy = true›) hi h

theorem did_iBlockFor {i : Instr} {s t : State} {q : Bool} {o e : Half} (hi : isStart i = true)
    (h : iBlockFor Config.params q o e s = .ok t) : Did i s t := by
  rcases whenEnabled_eq_ok.mp h with ⟨-, h⟩ | ⟨-, rfl⟩
  · exact did_startIBlock hi h
  · exact .nothing

theorem did_answerOk {rv : Word} {s t : State} (h : answerOk Config.params rv s = .ok t) :
    Did (.xfrBlockAnswerOk rv) s t := by
  rw [answerOk_eq Config.params_legal] at h
  split at h
  · cases h
  · rename_i hs
    split at h
    · cases Except.ok.inj h; exact .nothing
    · rename_i hn
      split at h
      · cases h
      · rename_i hc
        cases Except.ok.inj h
        refine .answer _ _ _ _ _ s.msg (.inr ⟨by simpa using hs, rfl⟩) (.inl rfl) (fun _ => ?_) rfl (by simp)
        have : rv.toInt = rv.toNat := by
          rw [BitVec.toInt_eq_toNat_cond] at hn ⊢
          split <;> simp_all; omega
        omega

theorem did_answerFail {rv : Word} {s t : State} (h : answerFail Config.params rv s = .ok t) :
    Did (.xfrBlockAnswerFail rv) s t := by
  rw [answerFail_eq Config.params_legal] at h
  split at h
  · cases h
  · rename_i hs
    split at h
    · cases Except.ok.inj h
      exact .answer _ 0 _ _ _ s.msg (.inr ⟨by simpa using hs, rfl⟩) (.inl rfl) (fun _ => Nat.zero_le _) rfl (by simp)
    · cases Except.ok.inj h; exact .nothing

theorem did_reassemble {s t : State} (h : reassemble Config.params s = .ok t) : Did .reassemble s t := by
  have more : s.fstate = .await → readMore Config.params s = .ok t → Did .reassemble s t := by
    intro hs h
    rw [readMore_eq] at h
    split at h
    · cases Except.ok.inj h; exact .nothing
    · split at h
      · cases h
      · rename_i hc
        simp only [freeSpace] at hc
        cases Except.ok.inj h; exact .readMore _ _ hs ‹_› (by omega) (by omega) rfl
  rw [reassemble_eq] at h
  split at h
  · rename_i hs
    split at h
    · rename_i hf
      split at h
      · cases h
      · rename_i len hr
        split at h
        · cases Except.ok.inj h; exact .discard len hs hf hr ‹_› rfl
        · rename_i hl
          split at h
          · rename_i hb
            simp only [Config.hdr, Config.maxMsg] at hl hb
            obtain ⟨bs, hf', hbs, rfl⟩ := yieldMessage_ok Config.params_legal (by omega) hb h
            exact .yield bs _ hs hf' hbs (by omega) (by omega) hb rfl
          · exact more hs h
    · exact more hs h
  · cases Except.ok.inj h; exact .nothing

theorem did_flushChunk {s t : State} (h : flushChunk Config.params s = .ok t) : Did .flushChunk s t := by
  rw [flushChunk_eq] at h
  split at h
  · rename_i hs
    split at h
    · cases h
    · rename_i cs hr
      split at h
      · cases Except.ok.inj h; exact .nothing
      · split at h
        · cases h
        · cases Except.ok.inj h
          exact .chunk _ _ _ hs.1 hs.2 ‹_› (by omega) (memRead_eq_ok.mp hr).2 rfl
  · cases Except.ok.inj h; exact .nothing

theorem did_writeAttempt {s t : State} (h : writeAttempt Config.params s = .ok t) : Did .t1WriteAttempt s t := by
  rw [writeAttempt_eq Config.params_legal] at h
  split at h
  · split at h
    · cases h
    · split at h
      · cases Except.ok.inj h; exact .nothing
      · split at h
        · rename_i hst
          subst hst
          cases Except.ok.inj h; exact .wrote _ _ ‹_› ‹_› rfl
        · cases Except.ok.inj h; exact .writeFailed _ _ _ ‹_› ‹_› ‹_› rfl
  · cases Except.ok.inj h; exact .nothing

theorem did_rdhdrAttempt {s t : State} (h : rdhdrAttempt Config.params s = .ok t) : Did .t1RdhdrAttempt s t := by
  rw [rdhdrAttempt_eq Config.params_legal] at h
  split at h
  · split at h
    · cases Except.ok.inj h; exact .nothing
    · rename_i r rest hu
      split at h
      · cases Except.ok.inj h; exact .header _ _ _ _ _ ‹_› ‹_› rfl
      · rename_i hne
        split at h
        · cases h
        · cases Except.ok.inj h
          refine .readFailed 4 r rest (.inl ‹_›) hu ?_ (.inl rfl)
          have : r.length ≠ 4 := fun hl => by
            match r, hl with
            | [a, b, c, d], _ => exact hne a b c d rfl
          omega
  · cases Except.ok.inj h; exact .nothing

theorem did_rdbodyAttempt {s t : State} (h : rdbodyAttempt Config.params s = .ok t) : Did .t1RdbodyAttempt s t := by
  rcases whenEnabled_eq_ok.mp h with ⟨hs, h⟩ | ⟨-, rfl⟩
  · have hs : s.t1state = .rdbody := by simpa using hs
    split at h
    · cases Except.ok.inj h; exact .nothing
    · rename_i r rest hu
      split at h
      · cases h
      · split at h
        · rename_i hl
          simp only [except_bind_eq_ok, memWrite_eq_ok, except_pure] at h
          obtain ⟨u, ⟨hc, rfl⟩, h⟩ := h
          cases Except.ok.inj h
          exact .body r rest hs hu hl (by simp only [capacity] at hc; omega) rfl
        · rw [attemptFailed_eq Config.params_legal] at h
          cases Except.ok.inj h
          exact .readFailed _ r rest (.inr hs) hu (by omega) (.inr rfl)
  · exact .nothing

theorem did_txComplete {s t : State} (h : txComplete s = .ok t) : Did .txComplete s t := by
  unfold txComplete at h
  split at h
  · cases Except.ok.inj h; exact .txDone ‹_› rfl
  · cases h

/-- What an operation without a fault ends in is one of the cases of `Did`. -/
theorem effect_did {i : Instr} {s t : State} (h : effect i s = .ok t) : Did i s t := by
  cases i with
  | powerOn => exact did_powerOn rfl rfl (by simp) h
  | powerOff => exact did_header _ _ _ rfl rfl (by simp) h
  | getSlotStatus => exact did_header _ _ _ rfl rfl (by simp) h
  | xfrBlock => exact did_xfrBlock (.inr ⟨_, rfl⟩) rfl (by simp) h
  | getParameters => exact did_header _ _ _ rfl rfl (by simp) h
  | resetParameters => exact did_header _ _ _ rfl rfl (by simp) h
  | setParameters => exact did_header _ _ _ rfl rfl (by simp) h
  | unknown => exact did_header _ _ _ rfl rfl (by simp) h
  | rspDataBlock => exact did_respondRow rfl rfl (by simp) rfl h
  | rspSlotStatus => exact did_respondRow rfl rfl (by simp) rfl h
  | rspParameters => exact did_respondRow rfl rfl (by simp) rfl h
  | iBlockNs0 => exact did_iBlockFor rfl h
  | iBlockNs1 => exact did_iBlockFor rfl h
  | ctrlReset => exact did_transact rfl h
  | anyPcb => exact did_transact rfl h
  | t1Transact => exact did_transact rfl h
  | t1TransactApdu => exact did_startIBlock rfl h
  | crc16 => cases Except.ok.inj h; exact .crc _ (.inl ⟨_, rfl⟩) rfl (by simp)
  | frameCrc => cases Except.ok.inj h; exact .crc _ (.inr ⟨_, rfl⟩) rfl (by simp)
  | reassemble => exact did_reassemble h
  | dispatch => exact did_dispatch h
  | xfrBlockAnswerOk => exact did_answerOk h
  | xfrBlockAnswerFail => exact did_answerFail h
  | flushChunk => exact did_flushChunk h
  | t1WriteAttempt => exact did_writeAttempt h
  | t1RdhdrAttempt => exact did_rdhdrAttempt h
  | t1RdbodyAttempt => exact did_rdbodyAttempt h
  | txComplete => exact did_txComplete h

/-- An operation that raises nothing leaves the fault record as it was. -/
theorem Did.fault_eq {i : Instr} {s t : State} (h : Did i s t) : t.fault = s.fault := by
  cases h <;> simp

/-- What an operation answers: one of the cases of `Did`, or the state with a fault recorded and nothing else. -/
theorem exec_cases {i : Instr} {s t : State} (h : exec i s = .next t) : Did i s t ∨ ∃ f, t = s.raise f := by
  rcases exec_eq_next.mp h with h | ⟨f, -, rfl⟩
  · exact .inl (effect_did h)
  · exact .inr ⟨f, rfl⟩

/-! ### Steps -/

/-- Taking a turn changes the schedule and the count of free choices only. -/
theorem nextTurn_state (s : State) : ∃ ts n, (nextTurn s).2 = { s with sched := ts, choices := n } := by
  unfold nextTurn ownTurn
  split
  · exact ⟨_, s.choices, rfl⟩
  · split
    · exact ⟨s.sched, s.choices, rfl⟩
    · split
      · exact ⟨s.sched, s.choices, rfl⟩
      · exact ⟨s.sched, _, rfl⟩

/-- A request runs the operation it names, where that is admitted. -/
theorem requestOp_eq_some {i j : Instr} {s : State} : requestOp i s = some j ↔ i = j ∧ admitted i s = true := by
  unfold requestOp; split <;> simp_all

/-- The operation `i` is taken in state `u` by its agent: the framer, the engine, or a request at the head of the
schedule, where it is admitted. -/
def Taken (sched : List Turn) (i : Instr) (u : State) : Prop :=
  framerOp u = some i ∨ engineOp u = some i ∨ (sched = .request i :: u.sched ∧ admitted i u = true)

/-- The framer's and the engine's own operations are always admitted. -/
theorem Taken.admitted {ts : List Turn} {i : Instr} {u : State} (h : Taken ts i u) : admitted i u = true := by
  rcases h with h | h | ⟨-, h⟩
  · unfold framerOp at h; split at h <;> cases h <;> rfl
  · unfold engineOp at h; split at h <;> cases h <;> rfl
  · exact h

/-- Everything a step that answers a next state can be: an agent that waits, a well-formed operation its agent takes, an
outside agent's write; each from the state with the turn taken. -/
theorem step_cases {s t : State} (h : step s = .next t) :
    s.fault = none ∧ ∃ ts n, ∃ u, u = { s with sched := ts, choices := n } ∧
      (t = u ∨ (∃ i, i.wf Config.params = true ∧ Taken s.sched i u ∧ exec i u = .next t) ∨
        (∃ off bs, settle u (processorWrite Config.params off bs u) = .next t) ∨
        ∃ off bs, settle u (callerWrite Config.params off bs u) = .next t) := by
  unfold step at h
  split at h
  · cases h
  · rename_i hf
    obtain ⟨ts, n, hu⟩ := nextTurn_state s
    refine ⟨hf, ts, n, _, rfl, ?_⟩
    rw [hu] at h
    have op : ∀ o : Option Instr,
        (∀ i, o = some i → i.wf Config.params = true ∧ Taken s.sched i { s with sched := ts, choices := n }) →
        runOp o { s with sched := ts, choices := n } = .next t →
        t = { s with sched := ts, choices := n } ∨ ∃ i, i.wf Config.params = true ∧
          Taken s.sched i { s with sched := ts, choices := n } ∧
          exec i { s with sched := ts, choices := n } = .next t := by
      intro o hw h
      cases o with
      | none => cases h; exact .inl rfl
      | some i => exact .inr ⟨i, (hw i rfl).1, (hw i rfl).2, h⟩
    cases hturn : (nextTurn s).1 with
    | framer =>
      rw [hturn] at h
      exact (op _ (fun i hi => ⟨by unfold framerOp at hi; split at hi <;> cases hi <;> rfl, .inl hi⟩) h).imp id .inl
    | engine =>
      rw [hturn] at h
      exact (op _ (fun i hi => ⟨by unfold engineOp at hi; split at hi <;> cases hi <;> rfl, .inr (.inl hi)⟩) h).imp id
        .inl
    | request i =>
      have hs : s.sched = .request i :: ts := by
        unfold nextTurn at hturn hu
        split at hturn
        · rename_i tt us hsc
          rw [hsc] at hu ⊢
          rw [show tt = .request i from hturn]
          exact congrArg _ (congrArg State.sched hu)
        · unfold ownTurn at hturn
          split at hturn
          · cases hturn
          · split at hturn
            · cases hturn
            · simp only at hturn; split at hturn <;> cases hturn
      rw [hturn] at h
      simp only [runTurn] at h
      split at h
      · rename_i hw
        refine (op _ (fun j hj => ?_) h).imp id .inl
        obtain ⟨rfl, ha⟩ := requestOp_eq_some.mp hj
        exact ⟨hw, .inr (.inr ⟨hs, ha⟩)⟩
      · cases h
    | processorWrite off bs => rw [hturn] at h; exact .inr (.inr (.inl ⟨off, bs, h⟩))
    | callerWrite off bs => rw [hturn] at h; exact .inr (.inr (.inr ⟨off, bs, h⟩))

/-- An outside agent's write of `MSG`: a fault recorded, or the bytes written while `FSTATE = PROCESS`. -/
theorem processorWrite_cases {s t : State} {off : Nat} {bs : List Byte}
    (h : settle s (processorWrite Config.params off bs s) = .next t) :
    (∃ f, t = s.raise f) ∨ (s.fstate = .process ∧ off + bs.length ≤ Config.params.msgPayloadCap ∧
      t = { s with msg := s.msg.writeN (10 + off) bs }) := by
  rcases settle_eq_next.mp h with h | ⟨f, -, rfl⟩
  · unfold processorWrite at h
    split at h
    · cases h
    · rename_i hs
      obtain ⟨hc, rfl⟩ := memWrite_eq_ok.mp h
      exact .inr ⟨by simpa using hs, by simp only [capacity, Config.hdr] at hc; omega, rfl⟩
  · exact .inl ⟨f, rfl⟩

/-- An outside agent's write of `APDU`: a fault recorded, or the bytes written while `T1_BUSY = 0`. -/
theorem callerWrite_cases {s t : State} {off : Nat} {bs : List Byte}
    (h : settle s (callerWrite Config.params off bs s) = .next t) :
    (∃ f, t = s.raise f) ∨ (s.t1busy = false ∧ off + bs.length ≤ Config.params.apduCap ∧
      t = { s with apdu := s.apdu.writeN off bs }) := by
  rcases settle_eq_next.mp h with h | ⟨f, -, rfl⟩
  · unfold callerWrite at h
    split at h
    · cases h
    · rename_i hs
      obtain ⟨hc, rfl⟩ := memWrite_eq_ok.mp h
      exact .inr ⟨by simpa using hs, hc, rfl⟩
  · exact .inl ⟨f, rfl⟩

/-- A relation holds of every step when it ignores the schedule and the count of free choices, and holds of each thing
a step can be: nothing, a fault recorded, an admitted operation's effect, an outside agent's write. -/
theorem step_relation {R : State → State → Prop} {s t : State} (h : step s = .next t)
    (turn : ∀ ts n t, R { s with sched := ts, choices := n } t → R s t) (same : ∀ u, R u u)
    (raise : ∀ u f, R u (u.raise f))
    (op : ∀ i u t, i.wf Config.params = true → admitted i u = true → u.fault = none → Did i u t → R u t)
    (processor : ∀ u off bs, u.fstate = .process → off + bs.length ≤ Config.params.msgPayloadCap →
      R u { u with msg := u.msg.writeN (10 + off) bs })
    (caller : ∀ u off bs, u.t1busy = false → off + bs.length ≤ Config.params.apduCap →
      R u { u with apdu := u.apdu.writeN off bs }) : R s t := by
  obtain ⟨hf, ts, n, u, rfl, h⟩ := step_cases h
  apply turn ts n
  rcases h with rfl | ⟨i, hw, hk, h⟩ | ⟨off, bs, h⟩ | ⟨off, bs, h⟩
  · exact same _
  · rcases exec_cases h with h | ⟨f, rfl⟩
    · exact op i _ _ hw hk.admitted hf h
    · exact raise _ _
  · rcases processorWrite_cases h with ⟨f, rfl⟩ | ⟨h1, h2, rfl⟩
    · exact raise _ _
    · exact processor _ _ _ h1 h2
  · rcases callerWrite_cases h with ⟨f, rfl⟩ | ⟨h1, h2, rfl⟩
    · exact raise _ _
    · exact caller _ _ _ h1 h2

/-! ### The end of a transaction -/

/-- The number of I2C attempts a transaction in this state can still make (R118, R130): those of the present phase and
`N_ATTEMPTS` for each later one. -/
def attemptsLeft (s : State) : Nat :=
  match s.t1state with
  | .idle => 0
  | .write => 2 * Config.params.nAttempts + (Config.params.nAttempts + 1 - s.attempt)
  | .rdhdr => Config.params.nAttempts + (Config.params.nAttempts + 1 - s.attempt)
  | .rdbody => Config.params.nAttempts + 1 - s.attempt

end Sys2Proof.Machine
end

