-- ==== Sys2Proof/Tests/Slice0.lean ====
section
/-! SUPPORT. Tests: one step each, expected results from spec/95_test_vectors.md (its vector is named) or worked out from the
rule named; the example parameters are that file's. Then, for every obligation with hypotheses, a witness that meets
them. -/

namespace Sys2Proof.Tests

open Sys2Proof.Machine Sys2Proof.Safety

/-- The example configuration of 95_test_vectors.md. -/
def ex : Params where
  rxCap := 2048
  msgPayloadCap := 1024
  apduCap := 4096
  usbMaxWrite := 8
  nadTx := 0x5A
  pcbReset := 0xC7
  seAddr := 0x48
  nAttempts := 3
  genericErr := [0x6F, 0x00]

theorem test_ex_legal : ex.Legal := by constructor <;> decide

/-- A command without payload from slot 0 with sequence number 7. -/
def cmd : CcidCommand := ⟨0x00, 0x07, 0x00, 0x00, 0x00, []⟩

/-- A response header of length `n`. -/
def rsp (n : Word) : CcidResponse := ⟨n, 0x00, 0x07, 0x00, 0x00, 0x00⟩

/-! ### Well-formedness: an ill-formed term for each check -/

theorem test_wf_payload_1024 : (Instr.xfrBlock { cmd with payload := List.replicate 1024 0 }).wf ex = true := by
  decide +kernel
theorem test_wf_payload_1025 : (Instr.xfrBlock { cmd with payload := List.replicate 1025 0 }).wf ex = false := by
  decide +kernel
theorem test_wf_payload_all : ∀ i ∈ [Instr.powerOn { cmd with payload := List.replicate 1025 0 },
    .powerOff { cmd with payload := List.replicate 1025 0 }, .getSlotStatus { cmd with payload := List.replicate 1025 0 },
    .getParameters { cmd with payload := List.replicate 1025 0 },
    .resetParameters { cmd with payload := List.replicate 1025 0 },
    .setParameters { cmd with payload := List.replicate 1025 0 },
    .unknown 0x00 { cmd with payload := List.replicate 1025 0 }], i.wf ex = false := by decide +kernel
theorem test_wf_unknown_is_no_command : (Instr.unknown 0x62 cmd).wf ex = false := by decide
theorem test_wf_unknown : (Instr.unknown 0x80 cmd).wf ex = true := by decide
theorem test_wf_response_length : ∀ i ∈ [Instr.rspDataBlock (rsp 1025), .rspSlotStatus (rsp 1025),
    .rspParameters (rsp 1025)], i.wf ex = false := by decide
theorem test_wf_anyPcb : ∀ b ∈ [(0x00 : Byte), 0x40, 0xC7], (Instr.anyPcb b 0 0).wf ex = false := by decide
theorem test_wf_frameCrc_short : (Instr.frameCrc [1, 2, 3]).wf ex = false := by decide
theorem test_wf_frameCrc_long : (Instr.frameCrc (List.replicate 4093 0)).wf ex = false := by decide +kernel
theorem test_wf_answerOk_negative : (Instr.xfrBlockAnswerOk 0xFFFFFFFF).wf ex = false := by decide
theorem test_wf_answerFail_positive : (Instr.xfrBlockAnswerFail 0).wf ex = false := by decide

/-! ### Decoding: words written out from R70, R71, R78, R79, R82 -/

theorem test_decode_powerOn : decode ex (.message [0x62, 0, 0, 0, 0, 0, 7, 0, 0, 0]) = .ok (.powerOn cmd) := rfl
theorem test_decode_powerOff : decode ex (.message [0x63, 0, 0, 0, 0, 0, 7, 0, 0, 0]) = .ok (.powerOff cmd) := rfl
theorem test_decode_getSlotStatus :
    decode ex (.message [0x65, 0, 0, 0, 0, 0, 7, 0, 0, 0]) = .ok (.getSlotStatus cmd) := rfl
theorem test_decode_xfrBlock : decode ex (.message [0x6F, 0x04, 0, 0, 0, 0x01, 0x02, 3, 4, 5, 0x00, 0xCA, 0x00, 0x00]) =
    .ok (.xfrBlock ⟨1, 2, 3, 4, 5, [0x00, 0xCA, 0x00, 0x00]⟩) := rfl
theorem test_decode_getParameters :
    decode ex (.message [0x6C, 0, 0, 0, 0, 0, 7, 0, 0, 0]) = .ok (.getParameters cmd) := rfl
theorem test_decode_resetParameters :
    decode ex (.message [0x6D, 0, 0, 0, 0, 0, 7, 0, 0, 0]) = .ok (.resetParameters cmd) := rfl
theorem test_decode_setParameters :
    decode ex (.message [0x61, 0x02, 0, 0, 0, 0, 7, 0, 0, 0, 0x11, 0x10]) =
      .ok (.setParameters { cmd with payload := [0x11, 0x10] }) := rfl
theorem test_decode_unknown : decode ex (.message [0x80, 0, 0, 0, 0, 0, 7, 0, 0, 0]) = .ok (.unknown 0x80 cmd) := rfl
theorem test_decode_rspDataBlock :
    decode ex (.response [0x80, 0x01, 0x02, 0x03, 0x04, 0, 7, 8, 9, 10]) =
      .ok (.rspDataBlock ⟨0x04030201, 0, 7, 8, 9, 10⟩) := rfl
theorem test_decode_rspSlotStatus :
    decode ex (.response [0x81, 0, 0, 0, 0, 0, 7, 0x40, 0, 0]) = .ok (.rspSlotStatus ⟨0, 0, 7, 0x40, 0, 0⟩) := rfl
theorem test_decode_rspParameters :
    decode ex (.response [0x82, 0, 0, 0, 0, 0, 7, 0, 0, 1]) = .ok (.rspParameters ⟨0, 0, 7, 0, 0, 1⟩) := rfl
theorem test_decode_iBlockNs0 : decode ex (.frame 0x00 4 258) = .ok (.iBlockNs0 4 258) := rfl
theorem test_decode_iBlockNs1 : decode ex (.frame 0x40 4 258) = .ok (.iBlockNs1 4 258) := rfl
theorem test_decode_ctrlReset : decode ex (.frame 0xC7 0 0) = .ok (.ctrlReset 0 0) := rfl
theorem test_decode_anyPcb : decode ex (.frame 0x60 0 0) = .ok (.anyPcb 0x60 0 0) := rfl
theorem test_decode_rejects : decode ex (.message [0x62, 0, 0, 0]) = .error .shortHeader ∧
    decode ex (.message [0x6F, 0x01, 0x04, 0, 0, 0, 0, 0, 0, 0]) = .error .lengthTooLong ∧
    decode ex (.message [0x6F, 2, 0, 0, 0, 0, 0, 0, 0, 0, 1]) = .error .truncated ∧
    decode ex (.message [0x6F, 0, 0, 0, 0, 0, 0, 0, 0, 0, 1]) = .error .trailing ∧
    decode ex (.response [0x62, 0, 0, 0, 0, 0, 0, 0, 0, 0]) = .error .notResponse := ⟨rfl, rfl, rfl, rfl, rfl⟩
theorem test_tableWord_command : decodeTableWord 8 0x62 = some (.powerOn { cmd with seq := 0 }) := by decide +kernel
theorem test_tableWord_response : decodeTableWord 8 0x81 = some (.rspSlotStatus ⟨0, 0, 0, 0, 0, 0⟩) := by
  decide +kernel
theorem test_tableWord_pcb : decodeTableWord 8 0x40 = some (.iBlockNs1 0 0) := by decide +kernel

/-! ### One step of each operation -/

/-- The state an effect ends in. -/
def endState (r : Except Fault State) : Option State := r.toOption

/-- The fault an effect raises. -/
def raisedBy (r : Except Fault State) : Option Fault :=
  match r with
  | .ok _ => none
  | .error f => some f

/-- The dispatcher's turn with `bs` in `MSG`. -/
def building (bs : List Byte) : State := { State.reset with fstate := .build, msg := Memory.writeN [] 0 bs }

/-- The processor's turn with `bs` in `MSG`. -/
def processing (bs : List Byte) : State := { building bs with fstate := .process }

/-- The response an effect leaves: the first `n` bytes of `MSG`, RSP_LEN and FSTATE. -/
def answer (n : Nat) (r : Except Fault State) : Option (Option (List Byte) × Nat × FState) :=
  (endState r).map fun t => (t.msg.readN 0 n, t.rspLen, t.fstate)

/-- V-D-2: a power-on with a payload of its own. -/
theorem test_powerOn : answer 14 (powerOn ex (building [0x62, 2, 0, 0, 0, 1, 8, 0, 0, 0, 0x11, 0x22])) =
    some (some [0x80, 4, 0, 0, 0, 1, 8, 0, 0, 0, 0x3B, 0x80, 0x01, 0x81], 14, .flush) := by decide
/-- V-D-3. -/
theorem test_powerOff : answer 10 (powerOff ex (building [0x63, 0, 0, 0, 0, 0, 2, 9, 9, 9])) =
    some (some [0x81, 0, 0, 0, 0, 0, 2, 0, 0, 0], 10, .flush) := by decide
/-- V-D-4. -/
theorem test_getSlotStatus : answer 10 (getSlotStatus ex (building [0x65, 0, 0, 0, 0, 1, 9, 0, 0, 0])) =
    some (some [0x81, 0, 0, 0, 0, 1, 9, 0, 0, 0], 10, .flush) := by decide
/-- R178: `Process(4)`. -/
theorem test_xfrBlock : (endState (xfrBlockStart ex (building [0x6F, 4, 0, 0, 0, 0, 1, 0, 0, 0, 0, 0xCA, 0, 0]))).map
    (fun t => (t.fstate, t.log)) = some (.process, [.process 4]) := by decide
/-- V-D-11. -/
theorem test_getParameters : answer 10 (getParameters ex (building [0x6C, 0, 0, 0, 0, 0, 4, 0, 0, 0])) =
    some (some [0x82, 0, 0, 0, 0, 0, 4, 0, 0, 1], 10, .flush) := by decide
/-- V-D-12. -/
theorem test_resetParameters : answer 10 (resetParameters ex (building [0x6D, 0, 0, 0, 0, 0, 5, 0, 0, 0])) =
    some (some [0x82, 0, 0, 0, 0, 0, 5, 0, 0, 1], 10, .flush) := by decide
/-- V-D-13: the payload stays in `MSG` and is not sent. -/
theorem test_setParameters : answer 11 (setParameters ex (building [0x61, 1, 0, 0, 0, 0, 6, 1, 0, 0, 0x11])) =
    some (some [0x82, 0, 0, 0, 0, 0, 6, 0, 0, 1, 0x11], 10, .flush) := by decide
/-- V-D-14. -/
theorem test_unknown : answer 10 (dispatch ex (building [0, 0, 0, 0, 0, 0, 0x0C, 0, 0, 0])) =
    some (some [0x81, 0, 0, 0, 0, 0, 0x0C, 0x40, 0, 0], 10, .flush) := by decide
/-- V-D-15: a response code as a command. -/
theorem test_dispatch_response_code : answer 10 (dispatch ex (building [0x80, 0, 0, 0, 0, 3, 0x0D, 0, 0, 0])) =
    some (some [0x81, 0, 0, 0, 0, 3, 0x0D, 0x40, 0, 0], 10, .flush) := by decide
/-- R172: the length little-endian, slot and seq not written. -/
theorem test_rspDataBlock : answer 10 (respondRow ex Config.rspDataBlock ⟨0x0102, 9, 9, 3, 4, 5⟩
    (building [0, 0, 0, 0, 0, 1, 2, 0, 0, 0])) = some (some [0x80, 2, 1, 0, 0, 1, 2, 3, 4, 5], 268, .flush) := by decide
theorem test_rspSlotStatus : answer 10 (respondRow ex Config.rspSlotStatus ⟨0, 9, 9, 0x40, 0, 0⟩
    (building [0, 0, 0, 0, 0, 1, 2, 0, 0, 0])) = some (some [0x81, 0, 0, 0, 0, 1, 2, 0x40, 0, 0], 10, .flush) := by
  decide
theorem test_rspParameters : answer 10 (respondRow ex Config.rspParameters ⟨0, 9, 9, 0, 0, 1⟩
    (building [0, 0, 0, 0, 0, 1, 2, 0, 0, 0])) = some (some [0x82, 0, 0, 0, 0, 1, 2, 0, 0, 1], 10, .flush) := by decide
/-- R215: no response row while the dispatcher waits for the processor. -/
theorem test_rsp_process : endState (respondRow ex Config.rspSlotStatus ⟨0, 9, 9, 0x40, 0, 0⟩ (processing [0x6F])) =
    some (processing [0x6F]) := by decide
/-- R171, R178: a request of a command that `MSG` does not select is not admitted, nor a response to a transfer-block. -/
theorem test_admitted : admitted (.powerOn cmd) (building [0x62]) = true ∧
    admitted (.powerOff cmd) (building [0x62]) = false ∧ admitted (.rspDataBlock (rsp 4)) (building [0x62]) = true ∧
    admitted (.rspSlotStatus (rsp 0)) (building [0x62]) = false ∧
    admitted (.rspDataBlock (rsp 0)) (building [0x6F]) = false ∧
    admitted (.rspDataBlock (rsp 0)) (processing [0x6F]) = false ∧
    admitted (.xfrBlockAnswerOk 0) (processing [0x6F]) = true := by decide
/-- V-D-5. -/
theorem test_answerOk : answer 12 (answerOk ex 2 (processing [0x6F, 4, 0, 0, 0, 0, 1, 0, 0, 0, 0x90, 0x00])) =
    some (some [0x80, 2, 0, 0, 0, 0, 1, 0, 0, 0, 0x90, 0x00], 12, .flush) := by decide
/-- V-D-10. -/
theorem test_answerOk_overrun : raisedBy (answerOk ex 1025 (processing [])) = some (.procOverrun 1025) ∧
    raisedBy (answerOk ex 1024 (processing [])) = none := by decide
/-- V-D-9: `−300`. -/
theorem test_answerFail : answer 10 (answerFail ex (BitVec.ofInt 32 (-300))
    (processing [0x6F, 1, 0, 0, 0, 0, 2, 0, 0, 0])) = some (some [0x80, 0, 0, 0, 0, 0, 2, 0x40, 0x2C, 0], 10, .flush) := by
  decide
/-- V-D-8 and R185: magnitudes whose low 8 bits are 0. -/
theorem test_errByte : errByte (BitVec.ofInt 32 (-256)) = 0 ∧ errByte 0x80000000 = 0 ∧ errByte 0xFFFFFFFB = 5 := by
  decide

/-- A response of 14 bytes to flush, `USB_MAX_WRITE = 8`. -/
def flushing (foff : Nat) (answers : List Nat) : State :=
  { building [0x80, 4, 0, 0, 0, 0, 7, 0, 0, 0, 0x3B, 0x80, 0x01, 0x81] with
    fstate := .flush, rspLen := 14, foff := foff, usbTx := answers }

/-- V-F-3: 5 of 8 bytes accepted. -/
theorem test_flushChunk : (endState (flushChunk ex (flushing 0 [5]))).map
    (fun t => (t.foff, t.fstate, t.txInflight, sentBytes t.log)) = some (5, .flush, true, [0x80, 4, 0, 0, 0]) := by decide
/-- V-F-1: the last chunk ends the flush. -/
theorem test_flushChunk_last : (endState (flushChunk ex (flushing 8 [6]))).map
    (fun t => (t.foff, t.fstate, t.txInflight, sentBytes t.log)) =
      some (14, .await, true, [0, 0, 0x3B, 0x80, 0x01, 0x81]) := by decide
theorem test_txComplete : (endState (txComplete { State.reset with txInflight := true })).map (·.txInflight) =
    some false ∧ raisedBy (txComplete State.reset) = some (.portContract .usbTx) := by decide

/-- `bs` buffered in `RXB`, with read answers pending. -/
def buffered (bs : List Byte) (answers : List (List Byte)) : State :=
  { State.reset with rxb := Memory.writeN [] 0 bs, fill := bs.length, usbRx := answers }

/-- V-RA-8: a 13-byte message is yielded, 3 of the next message's bytes are kept. -/
theorem test_reassemble_yield : (endState (reassemble ex
    (buffered [0x6F, 3, 0, 0, 0, 0, 1, 0, 0, 0, 0xAA, 0xBB, 0xCC, 0x65, 0, 1] []))).map
    (fun t => (t.fill, t.fstate, t.rxb.readN 0 3, t.msg.readN 0 14)) = some (3, .build, some [0x65, 0, 1], none) := by
  decide
/-- V-RA-5: a declared length of 1025. -/
theorem test_reassemble_discard : (endState (reassemble ex (buffered [0x6F, 1, 4, 0, 0, 0, 4, 0, 0, 0] [[1]]))).map
    (fun t => (t.fill, t.fstate, t.framingErr, t.usbRx)) = some (0, .await, true, [[1]]) := by decide

/-- A free engine with `bs` in `APDU`. -/
def ready (seq : Bool) (bs : List Byte) : State := { State.reset with seq := seq, apdu := Memory.writeN [] 0 bs }

/-- The frame an effect leaves and `SEQ`. -/
def frame (n : Nat) (r : Except Fault State) : Option (Option (List Byte) × Half × Bool) :=
  (endState r).map fun t => (t.txf.readN 0 n, t.txfLen, t.seq)

/-- V-T1-2. -/
theorem test_ctrlReset : frame 6 (transact ex ex.pcbReset 0 0x0105 (ready true [])) =
    some (some [0x5A, 0xC7, 0x01, 0x05, 0x3D, 0x8C], 6, false) := by decide
/-- V-T1-4. -/
theorem test_t1Transact : frame 7 (transact ex 0x00 1 0 (ready true [0xAB])) =
    some (some [0x5A, 0x00, 0x00, 0x01, 0xAB, 0xF4, 0xBC], 7, true) := by decide
/-- V-T1-10: the sequence reset comes before the length check. -/
theorem test_t1Transact_tooLong : (endState (transact ex 0xC7 5000 0 (ready true []))).map
    (fun t => (t.t1result.toInt, t.seq, t.t1busy, t.txf)) = some (-1, false, false, []) := by decide
/-- R112, R83: another PCB is sent unchanged. -/
theorem test_anyPcb : (frame 2 (transact ex 0x60 0 0 (ready true []))) = some (some [0x5A, 0x60], 6, true) := by decide
/-- V-T1-5. -/
theorem test_iBlockNs0 : frame 10 (iBlockFor ex false 4 258 (ready false [0x00, 0xCA, 0x00, 0x00])) =
    some (some [0x5A, 0x00, 0x00, 0x04, 0x00, 0xCA, 0x00, 0x00, 0xCF, 0xD9], 10, true) := by decide
/-- V-T1-6. -/
theorem test_iBlockNs1 : frame 10 (iBlockFor ex true 4 258 (ready true [0x00, 0xCA, 0x00, 0x00])) =
    some (some [0x5A, 0x40, 0x00, 0x04, 0x00, 0xCA, 0x00, 0x00, 0x08, 0xDF], 10, false) := by decide
/-- V-T1-7. -/
theorem test_t1TransactApdu : frame 11 (transactApdu ex 5 258 (ready true [0x00, 0xA4, 0x04, 0x00, 0x00])) =
    some (some [0x5A, 0x40, 0x00, 0x05, 0x00, 0xA4, 0x04, 0x00, 0x00, 0x8E, 0xE6], 11, false) := by decide
/-- V-T1-11 and V-T1-12. -/
theorem test_t1TransactApdu_rejected : (endState (transactApdu ex 4089 0 (ready false []))).map
    (fun t => (t.t1result.toInt, t.seq)) = some (-1, true) ∧
    raisedBy (transactApdu ex 0 0 { ready false [] with t1busy := true }) = some .t1Overlap := by decide

/-- A running phase. -/
def phase (e : T1State) (attempt : Nat) : State :=
  { ready false [0xAA, 0xBB, 0xCC, 0xDD] with
    t1busy := true, t1state := e, attempt := attempt, t1explen := 258
    txf := Memory.writeN [] 0 [0x5A, 0xC7, 0, 0, 0x73, 0xF9], txfLen := 6 }

/-- V-T1-14: status 7, then 0. -/
theorem test_writeAttempt : (endState (writeAttempt ex { phase .write 1 with i2cWr := [7, 0] })).map
    (fun t => (t.t1state, t.attempt, t.i2cWr)) = some (.write, 2, [0]) ∧
    (endState (writeAttempt ex { phase .write 2 with i2cWr := [0] })).map (fun t => (t.t1state, t.attempt)) =
      some (.rdhdr, 1) := by decide
/-- V-T1-15: the third failure. -/
theorem test_writeAttempt_fails : (endState (writeAttempt ex { phase .write 3 with i2cWr := [1] })).map
    (fun t => (t.t1state, t.t1busy, t.t1result, t.apdu.readN 0 4)) =
      some (.idle, false, 0, some [0x6F, 0x00, 0xCC, 0xDD]) := by decide
/-- V-T1-18: 4096 declared bytes do not fit. -/
theorem test_rdhdrAttempt : (endState (rdhdrAttempt ex { phase .rdhdr 1 with i2cRd := [[0xA5, 0x00, 0x10, 0x00]] })).map
    (fun t => (t.t1state, t.t1result.toInt, t.rxHdr, t.rxDecl)) = some (.idle, -2, ⟨0xA5, 0x00, 0x10, 0x00⟩, 4096) := by
  decide
/-- V-T1-19: 4094 fit; and a short read is discarded. -/
theorem test_rdhdrAttempt_body : (endState (rdhdrAttempt ex { phase .rdhdr 2 with i2cRd := [[0xA5, 0x00, 0x0F, 0xFE]] })).map
    (fun t => (t.t1state, t.attempt)) = some (.rdbody, 1) ∧
    (endState (rdhdrAttempt ex { phase .rdhdr 2 with i2cRd := [[0xA5, 0x00]] })).map
      (fun t => (t.t1state, t.attempt, t.rxHdr.nad)) = some (.rdhdr, 3, 0) := by decide
/-- V-T1-13. -/
theorem test_rdbodyAttempt : (endState (rdbodyAttempt ex { phase .rdbody 1 with
    rxDecl := 2, i2cRd := [[0x90, 0x00, 0xCF, 0x2F]] })).map (fun t => (t.t1state, t.t1result, t.apdu.readN 0 4)) =
      some (.idle, 2, some [0x90, 0x00, 0xCF, 0x2F]) := by decide
/-- R206: one byte too many. -/
theorem test_rdbodyAttempt_long : raisedBy (rdbodyAttempt ex { phase .rdbody 1 with i2cRd := [[1, 2, 3]] }) =
    some (.portContract .i2c) := by decide

/-- V-CRC-9: all table entries, in order of the bytes 00 to FF. -/
theorem test_crc16 : crc16 ((List.range 256).map (BitVec.ofNat 8)) 0xFFFF = 0xCFC3 := by decide +kernel
/-- V-CRC-7 (R105): the check value of CRC-16/X-25; V-CRC-11. -/
theorem test_crc16_check : crc16 [0x31, 0x32, 0x33, 0x34, 0x35, 0x36, 0x37, 0x38, 0x39] 0xFFFF = 0x6F91 ∧
    crcLookup 0x5A = 0xFDDF := by decide +kernel
/-- V-CRC-10. -/
theorem test_frameCrc : frameCrc [0x5A, 0x00, 0x00, 0x05, 0x00, 0xA4, 0x04, 0x00, 0x00] = [0xEB, 0x17] := by
  decide +kernel

/-! ### A step runs the placed word -/

/-- The next state of an outcome. -/
def nextState (o : Host.Outcome State Fault Refusal) : Option State :=
  match o with
  | .next t => some t
  | .fault _ => none
  | .refused _ => none

theorem test_step_powerOn : (nextState (step (State.reset.withFetchWord 8 0x62))).map
    (fun t => (t.fault, t.fstate, t.msg.readN 0 14)) =
      some (none, .flush, some [0x80, 4, 0, 0, 0, 0, 0, 0, 0, 0, 0x3B, 0x80, 0x01, 0x81]) := by decide +kernel
theorem test_step_iBlock : (nextState (step (State.reset.withFetchWord 8 0x40))).map
    (fun t => (t.fault, t.t1state, t.t1pcb)) = some (none, .write, 0x40) := by decide +kernel

theorem test_step_rspSlotStatus : (nextState (step (State.reset.withFetchWord 80 0x4007060000000081))).map
    (fun t => (t.fault, t.fstate, t.msg.readN 0 10)) =
      some (none, .flush, some [0x81, 0, 0, 0, 0, 6, 7, 0x40, 0, 0]) := by decide +kernel

/-! ### Witnesses: states and operands that meet an obligation's hypotheses

A clause with hypotheses of its own has its own witness, at a boundary value where it has a range. -/

/-- A power-on message and its state. -/
def powerOnMessage : List Byte := [0x62, 0, 0, 0, 0, 0, 7, 0, 0, 0]

theorem wit_DecodeEncodeRoundTrip : ex.Legal ∧ (Instr.rspDataBlock (rsp 1024)).wf ex = true ∧
    encode ex (.rspDataBlock (rsp 1024)) = some (.response [0x80, 0x00, 0x04, 0, 0, 0, 7, 0, 0, 0]) :=
  ⟨test_ex_legal, by decide, rfl⟩

theorem wit_DecodingAcceptsAndRefuses : (List.replicate 1024 (0 : Byte)).length ≤ 1024 ∧
    (List.replicate 9 (0 : Byte)).length < 10 ∧ 1024 < (le32 1 4 0 0).toNat ∧ (le32 0 4 0 0).toNat ≤ 1024 ∧
    (List.replicate 1023 (0 : Byte)).length < (le32 0 4 0 0).toNat ∧
    (le32 0 4 0 0).toNat < (List.replicate 1025 (0 : Byte)).length ∧ (0x62 : Byte) ≠ Config.rspDataBlock ∧
    (0x62 : Byte) ≠ Config.rspSlotStatus ∧ (0x62 : Byte) ≠ Config.rspParameters ∧ [(0 : Byte)] ≠ [] := by
  decide +kernel

theorem wit_StepRunsTheStoredMessage : (building powerOnMessage).fault = none ∧ (building powerOnMessage).fstate = .build ∧
    storedMessage Config.params (building powerOnMessage) = some powerOnMessage ∧
    decodeMessage powerOnMessage = .ok (.powerOn cmd, []) ∧
    (building powerOnMessage).sched = [] ∧ (building powerOnMessage).t1state = .idle :=
  ⟨rfl, rfl, by decide +kernel, rfl, rfl, rfl⟩
theorem wit_StepRunsTheStoredMessage_scheduled :
    storedMessage Config.params { building powerOnMessage with sched := [.framer] } = some powerOnMessage := by
  decide +kernel

/-- A state with given turn, framer state and engine state. -/
def turning (ts : List Turn) (f : FState) (e : T1State) : State :=
  { State.reset with sched := ts, fstate := f, t1state := e }

theorem wit_StepRunsTheTurn (t : Turn) (f : FState) (e : T1State) : (turning [t] f e).fault = none ∧
    (turning [t] f e).sched = t :: [] ∧ (turning [t] f e).fstate = f ∧ (turning [t] f e).t1state = e ∧
    Instr.txComplete.wf Config.params = true ∧ (Instr.frameCrc []).wf Config.params = false :=
  ⟨rfl, rfl, rfl, rfl, rfl, rfl⟩

/-- A power-on message, and requests that it admits and bars. -/
theorem wit_StepRunsTheTurn_request (ts : List Turn) :
    { building powerOnMessage with sched := ts }.fault = none ∧
    admitted (.powerOn cmd) { building powerOnMessage with sched := ts } = true ∧
    admitted .txComplete { building powerOnMessage with sched := ts } = true ∧
    admitted (.powerOff cmd) { building powerOnMessage with sched := ts } = false ∧
    (Instr.powerOn cmd).wf Config.params = true ∧ (Instr.powerOff cmd).wf Config.params = true :=
  ⟨rfl, rfl, rfl, rfl, rfl, rfl⟩

theorem wit_StepWithoutSchedule (f : FState) (e : T1State) : (turning [] f e).fault = none ∧
    (turning [] f e).sched = [] ∧ (turning [] f e).fstate = f ∧ (turning [] f e).t1state = e := ⟨rfl, rfl, rfl, rfl⟩

/-- A state with a fault recorded. -/
def faulted : State := { State.reset with fault := some .t1Overlap, txInflight := true }

theorem wit_FaultRecordHolds : faulted.fault = some .t1Overlap ∧
    exec .txComplete faulted = .next { faulted with txInflight := false } := ⟨rfl, rfl⟩

theorem wit_FaultsChangeNothingElse : State.reset.fault = none ∧
    exec .txComplete State.reset = .next (State.reset.raise (.portContract .usbTx)) ∧
    (State.reset.raise (.portContract .usbTx)).fault ≠ none := ⟨rfl, rfl, by decide⟩

theorem wit_FrameCrcTellsOneByteApart : (0x00 : Byte) ≠ 0x01 := by decide

theorem readN_replicate (n : Nat) : (Memory.writeN [] 0 (List.replicate n 0)).readN 0 n =
    some (List.replicate n 0) := by
  have h := Memory.readN_writeN_same [] 0 (List.replicate n 0)
  rwa [List.length_replicate] at h

/-- A free engine with `n` bytes of payload in `APDU`. -/
def readyWith (n : Nat) : State := ready true (List.replicate n 0)

/-- R112, R140: any accepted length, and the largest. -/
theorem starts_with (o : Half) (ho : o.toNat < 4089) : (readyWith o.toNat).t1busy = false ∧ o.toNat < 4089 ∧
    (readyWith o.toNat).seq = true ∧ (readyWith o.toNat).apdu.readN 0 o.toNat = some (List.replicate o.toNat 0) :=
  ⟨rfl, ho, rfl, readN_replicate _⟩
theorem wit_Starts_4088 : ∃ (s : State) (data : List Byte), s.t1busy = false ∧ (4088 : Half).toNat < 4089 ∧ s.seq = true ∧
    s.apdu.readN 0 (4088 : Half).toNat = some data := ⟨_, _, starts_with 4088 (by decide)⟩
/-- R112, R140, R142: no payload. -/
theorem wit_Starts_0 : (ready false []).t1busy = false ∧ (0 : Half).toNat < 4089 ∧ (ready false []).seq = false ∧
    (ready false []).apdu.readN 0 (0 : Half).toNat = some [] ∧ (0 < (0 : Half).toNat ∨ (0 : Half) = 0) :=
  ⟨rfl, by decide, rfl, rfl, .inr rfl⟩

theorem wit_TooLongIsRejected (q : Bool) : (ready q []).t1busy = false ∧ 4089 ≤ (4089 : Half).toNat ∧
    (ready q []).seq = q := ⟨rfl, by decide, rfl⟩

theorem wit_StartWhileBusyFaults : (phase .write 1).t1busy = true := rfl

theorem wit_StartWithoutPayloadFaults (q : Bool) : (ready q []).t1busy = false ∧ (1 : Half).toNat < 4089 ∧
    (4088 : Half).toNat < 4089 ∧ (ready q []).seq = q ∧ (ready q []).apdu.readN 0 (1 : Half).toNat = none :=
  ⟨rfl, by decide, by decide, rfl, rfl⟩

theorem wit_OnlyStartsWriteSeq : exec .txComplete State.reset = .next (State.reset.raise (.portContract .usbTx)) ∧
    isStart .txComplete = false := ⟨rfl, rfl⟩
theorem wit_OnlyStartsWriteSeq_pcb : (∃ t, exec (.t1Transact 0x00 0 0) (ready true []) = .next t) ∧
    (0x00 : Byte) ≠ Config.params.pcbReset := ⟨exec_isNext _ _, Config.params_legal.pcbReset_ne_ns0.symm⟩

/-- R141: two rejected calls with a rejected T1_TRANSACT of another PCB between them; the three rejected resets. -/
theorem wit_SequenceBitAlternates : ∃ t u v, exec (.t1TransactApdu 4089 0) State.reset = .next t ∧ t.fault = none ∧
    execAll [.t1Transact 0x00 4089 0, .reassemble] t = some u ∧ exec (.t1TransactApdu 4089 0) u = .next v ∧
    v.fault = none ∧ ∀ i ∈ [Instr.t1Transact 0x00 4089 0, .reassemble], isIBlock i = false ∧ isPcbReset i = false := by
  refine ⟨_, _, _, rfl, rfl, rfl, rfl, rfl, fun i hi => ?_⟩
  have := Config.params_legal.pcbReset_ne_ns0
  simp only [List.mem_cons, List.not_mem_nil, or_false] at hi
  rcases hi with rfl | rfl
  · exact ⟨rfl, beq_false_of_ne this.symm⟩
  · exact ⟨rfl, rfl⟩
theorem wit_SequenceBitAlternates_reset : ∀ r ∈ [Instr.ctrlReset 4089 0, .t1Transact Config.params.pcbReset 4089 0,
    .anyPcb Config.params.pcbReset 4089 0], isPcbReset r = true ∧
      ∃ t v, exec r State.reset = .next t ∧ t.fault = none ∧ execAll [] t = some t ∧
        exec (.t1TransactApdu 4089 0) t = .next v ∧ v.fault = none := by
  intro r hr
  simp only [List.mem_cons, List.not_mem_nil, or_false] at hr
  rcases hr with rfl | rfl | rfl
  · exact ⟨rfl, _, _, rfl, rfl, rfl, rfl, rfl⟩
  · exact ⟨BEq.rfl, _, _, rfl, rfl, rfl, rfl, rfl⟩
  · exact ⟨BEq.rfl, _, _, rfl, rfl, rfl, rfl, rfl⟩

theorem wit_WriteAttempt (st : Int) : (phase .write 1).t1state = .write ∧ (phase .write 1).txfLen.toNat ≤ 4094 ∧
    (phase .write 1).txf.readN 0 (phase .write 1).txfLen.toNat = some [0x5A, 0xC7, 0, 0, 0x73, 0xF9] ∧
    { phase .write 1 with i2cWr := [st] }.i2cWr = st :: [] := ⟨rfl, by decide, by decide, rfl⟩

/-- An attempt with a retry left, where there are at least two attempts; and the last attempt, always. -/
theorem wit_lastAttempt (e : T1State) : (phase e 0).attempt < Config.params.nAttempts ∧
    Config.params.nAttempts ≤ (phase e Config.params.nAttempts).attempt :=
  ⟨Config.params_legal.nAttempts, Nat.le_refl _⟩

theorem wit_HeaderAttempt (a b c d : Byte) : { phase .rdhdr 1 with i2cRd := [[a, b, c, d]] }.t1state = .rdhdr ∧
    { phase .rdhdr 1 with i2cRd := [[a, b, c, d]] }.i2cRd = [a, b, c, d] :: [] ∧ (phase .rdhdr 1).t1explen ≠ 0 ∧
    (phase .rdhdr 1).t1state = .rdhdr ∧ { phase .rdhdr 1 with t1explen := 0 }.t1explen = 0 ∧
    ([a, b, c] : List Byte).length < 4 := ⟨rfl, rfl, by decide, rfl, rfl, Nat.lt_succ_self 3⟩
/-- The largest declared length that every legal `APDU_CAP` holds. -/
theorem wit_HeaderAttempt_fits : (be16 0x0F 0xF8).toNat + 2 ≤ Config.params.apduCap :=
  Nat.le_trans (by decide) Config.params_legal.apduCap
/-- A declared length that does not fit, where `APDU_CAP` is below the largest declared length. -/
theorem wit_HeaderAttempt_tooBig (h : Config.params.apduCap < 65537) :
    Config.params.apduCap < (be16 0xFF 0xFF).toNat + 2 := h

theorem wit_BodyAttempt : (phase .rdbody 1).t1state = .rdbody ∧
    (phase .rdbody 1).rxDecl.toNat + 2 ≤ Config.params.apduCap ∧
    { phase .rdbody 1 with i2cRd := [[0x12, 0x34]] }.i2cRd = [0x12, 0x34] :: [] ∧
    ([0x12, 0x34] : List Byte).length = (phase .rdbody 1).rxDecl.toNat + 2 ∧
    ([0x12] : List Byte).length < (phase .rdbody 1).rxDecl.toNat + 2 :=
  ⟨rfl, Nat.le_trans (by decide) Config.params_legal.apduCap, rfl, rfl, by decide⟩

theorem inv_reset : Inv State.reset where
  buffers := by intro b; cases b <;> simp [State.buf, State.reset, Memory.wf]
  fill_le := Nat.zero_le _
  rxb_valid := by simp [State.reset]
  msg_header := by simp [State.reset]
  rspLen_range := by simp [State.reset]
  foff_lt := by simp [State.reset]
  busy_iff := by simp [State.reset]
  attempt_range := by simp [State.reset]
  frame_len := by simp [State.reset]
  frame_valid := by simp [State.reset]
  rxDecl_eq := by decide
  body_fits := by simp [State.reset]

/-- A reset engine with as many turns and answers as a transaction can use. -/
def answering : State :=
  { State.reset with
    sched := List.replicate (3 * Config.params.nAttempts) .engine
    i2cWr := List.replicate Config.params.nAttempts 0, i2cRd := List.replicate (2 * Config.params.nAttempts) [] }

theorem wit_TransactionCompletes : ∃ t, Inv answering ∧ isStart (.ctrlReset 0 0) = true ∧ answering.fault = none ∧
    exec (.ctrlReset 0 0) answering = .next t ∧ t.fault = none ∧ t.t1busy = true ∧
    t.sched = List.replicate (3 * Config.params.nAttempts) .engine ++ [] ∧
    Config.params.nAttempts ≤ t.i2cWr.length ∧ 2 * Config.params.nAttempts ≤ t.i2cRd.length := by
  have h : exec (.ctrlReset 0 0) answering =
      .next (startedState Config.params Config.params.pcbReset 0 0 [] answering) := by
    rw [exec_eq]
    simp only [effect]
    rw [transact_free rfl, startTransaction_accepted Config.params_legal (data := []) (by decide) rfl]
    rfl
  exact ⟨_, { inv_reset with }, rfl, rfl, h, rfl, rfl, (List.append_nil _).symm,
    by simp [answering], by simp [answering]⟩

/-- `bs` buffered and nothing else. -/
theorem wit_ReassembleYields : (buffered powerOnMessage []).fstate = .await ∧
    (buffered powerOnMessage []).fill ≤ Config.params.rxCap ∧
    (buffered powerOnMessage []).rxb.readN 0 (buffered powerOnMessage []).fill =
      some (0x62 :: 0x00 :: 0x00 :: 0x00 :: 0x00 :: [0, 7, 0, 0, 0]) ∧ (le32 0 0 0 0).toNat ≤ 1024 ∧
    10 + (le32 0 0 0 0).toNat ≤ (buffered powerOnMessage []).fill :=
  ⟨rfl, Nat.le_trans (by decide) Config.params_legal.rxCap, by decide, by decide, by decide⟩
theorem wit_ReassembleYields_1024 : (le32 0x00 0x04 0x00 0x00).toNat ≤ 1024 ∧
    10 + (le32 0x00 0x04 0x00 0x00).toNat ≤ (buffered (0x6F :: 0x00 :: 0x04 :: 0x00 :: 0x00 :: List.replicate 1029 0)
      []).fill := by decide +kernel

theorem wit_ReassembleDiscards : (buffered [0x6F, 1, 4, 0, 0, 0, 4, 0, 0, 0] []).fstate = .await ∧
    10 ≤ (buffered [0x6F, 1, 4, 0, 0, 0, 4, 0, 0, 0] []).fill ∧
    (buffered [0x6F, 1, 4, 0, 0, 0, 4, 0, 0, 0] []).rxb.readN 1 4 = some [1, 4, 0, 0] ∧
    1024 < (le32 1 4 0 0).toNat := by decide

theorem wit_ReassembleReads (answers : List (List Byte)) : (buffered [] answers).fstate = .await ∧
    (buffered [] answers).fill < 10 ∧ (buffered [] answers).usbRx = answers ∧
    1 ≤ ([0x62] : List Byte).length ∧ ([0x62] : List Byte).length ≤ Config.params.rxCap - (buffered [] answers).fill :=
  ⟨rfl, Nat.zero_lt_succ 9, rfl, by decide, Nat.le_trans (by decide) Config.params_legal.rxCap⟩
/-- A header whose message lacks its last byte. -/
theorem wit_ReassembleReads_incomplete : (buffered [0x6F, 2, 0, 0, 0, 0, 1, 0, 0, 0, 0xAA] []).rxb.readN 1 4 =
    some [2, 0, 0, 0] ∧ (le32 2 0 0 0).toNat ≤ 1024 ∧
    (buffered [0x6F, 2, 0, 0, 0, 0, 1, 0, 0, 0, 0xAA] []).fill < 10 + (le32 2 0 0 0).toNat := by decide

/-- V-RA-2: the header split in two. -/
theorem wit_ChunkSizeIndependence : ∀ c ∈ [[(0x62 : Byte), 0, 0, 0, 0], [0, 7, 0, 0, 0]], c ≠ [] := by decide
theorem wit_ChunkSizeIndependence_message :
    [[(0x62 : Byte), 0, 0, 0, 0], [0, 7, 0, 0, 0]].flatten = 0x62 :: 0 :: 0 :: 0 :: 0 :: [0, 7, 0, 0, 0] ∧
    (le32 0 0 0 0).toNat ≤ 1024 ∧
    [[(0x62 : Byte), 0, 0, 0, 0], [0, 7, 0, 0, 0]].flatten.length = 10 + (le32 0 0 0 0).toNat ∧
    (buffered [] [[0x62, 0, 0, 0, 0], [0, 7, 0, 0, 0]]).usbRx = [[0x62, 0, 0, 0, 0], [0, 7, 0, 0, 0]] ++ [] ∧
    (buffered [] [[0x62, 0, 0, 0, 0], [0, 7, 0, 0, 0]]).fill = 0 := by decide

theorem wit_DispatchRunsTheCommand : (building powerOnMessage).fstate = .build ∧
    (building powerOnMessage).msg.read 0 = some 0x62 ∧ ∀ a < 10, ((building powerOnMessage).msg.read a).isSome := by
  decide

/-- The hypothesis of the command results (R174 to R184) and of the response rows. -/
theorem wit_commands : (building powerOnMessage).fstate = .build := rfl

theorem wit_XfrBlockStarts : (building [0x6F, 4, 0, 0, 0, 0, 1, 0, 0, 0]).fstate = .build ∧
    (building [0x6F, 4, 0, 0, 0, 0, 1, 0, 0, 0]).msg.readN 1 4 = some [4, 0, 0, 0] := by decide

/-- `rv = MSG_PAYLOAD_CAP = 1024` for the smallest legal capacity fits every legal one. -/
theorem wit_AnswerOkResult : (processing []).fstate = .process ∧ 0 ≤ (1024 : Word).toInt ∧
    (1024 : Word).toInt ≤ Config.params.msgPayloadCap :=
  ⟨rfl, by decide, Int.ofNat_le.mpr Config.params_legal.msgPayloadCap⟩
/-- The largest `rv` is an overrun, where `MSG_PAYLOAD_CAP` is below it. -/
theorem wit_AnswerOkResult_overrun (h : Config.params.msgPayloadCap < 2147483647) : 0 ≤ (0x7FFFFFFF : Word).toInt ∧
    (Config.params.msgPayloadCap : Int) < (0x7FFFFFFF : Word).toInt := ⟨by decide, Int.ofNat_lt.mpr h⟩

theorem wit_AnswerFailResult : (processing []).fstate = .process ∧ (0x80000000 : Word).toInt < 0 ∧
    (0xFFFFFFFF : Word).toInt < 0 := by decide

theorem wit_SlotAndSeqAreEchoed : ∃ t, step (turning [.framer] .process .idle) = .next t ∧
    (turning [.framer] .process .idle).fstate ≠ .await := ⟨_, rfl, by decide⟩

theorem wit_CommandsKeepNoState : ∃ t, exec .dispatch (building powerOnMessage) = .next t ∧
    t.fault = (building powerOnMessage).fault := by
  obtain ⟨t, ht⟩ := exec_isNext .dispatch (building powerOnMessage)
  have h : (nextState (exec .dispatch (building powerOnMessage))).map (·.fault) = some none := by decide +kernel
  rw [ht] at h
  exact ⟨t, ht, Option.some.inj h⟩

/-- The last chunk of a response, with one byte or more accepted or none. -/
theorem wit_FlushChunkResult : (flushing 13 [1]).fstate = .flush ∧ (flushing 13 [1]).txInflight = false ∧
    min Config.params.usbMaxWrite ((flushing 13 [1]).rspLen - (flushing 13 [1]).foff) = 1 ∧
    (flushing 13 [1]).foff + 1 ≤ 10 + Config.params.msgPayloadCap ∧
    (flushing 13 [1]).msg.readN (flushing 13 [1]).foff 1 = some [0x81] ∧ (flushing 13 [1]).usbTx = 1 :: [] ∧ 1 ≤ 1 :=
  ⟨rfl, rfl, Nat.min_eq_right Config.params_legal.usbMaxWrite,
    Nat.le_trans (by decide) (Nat.add_le_add_left Config.params_legal.msgPayloadCap 10), by decide, rfl, Nat.le_refl 1⟩

theorem wit_OneChunkInFlight : exec .txComplete { State.reset with txInflight := true } = .next State.reset ∧
    { State.reset with txInflight := true }.txInflight = true ∧ State.reset.txInflight = false := ⟨rfl, rfl, rfl⟩

/-- R58: no step yet. -/
theorem wit_ResponseLeavesInOrder : (flushing 0 []).fstate = .flush ∧ (flushing 0 []).foff = 0 ∧
    0 < (flushing 0 []).rspLen ∧ ((flushing 0 []).msg.readN 0 (flushing 0 []).rspLen).isSome ∧
    run 1 { flushing 0 [] with sched := [.engine] } = some (flushing 0 []) := ⟨rfl, rfl, by decide, by decide, rfl⟩

/-- A flush of one byte, which every legal `USB_MAX_WRITE` takes whole: the step reaches AWAIT. -/
def lastByte : State :=
  { State.reset with fstate := .flush, msg := [(0, 0x81)], rspLen := 1, usbTx := [1] }
theorem wit_ResponseLeavesInOrder_await : ∃ t, lastByte.fstate = .flush ∧ lastByte.foff = 0 ∧ 0 < lastByte.rspLen ∧
    lastByte.msg.readN 0 lastByte.rspLen = some [0x81] ∧
    (∀ k < 1, ∀ u, run k lastByte = some u → u.fstate = .flush) ∧ run 1 lastByte = some t ∧ t.fstate = .await := by
  have hk : chunkSize Config.params lastByte = 1 := Nat.min_eq_right Config.params_legal.usbMaxWrite
  have hr : memRead Config.params .msg lastByte.foff (chunkSize Config.params lastByte) lastByte = .ok [0x81] := by
    rw [hk]
    exact memRead_ok (b := .msg) (s := lastByte) (Nat.le_trans (by decide) (capacity_msg Config.params_legal))
      (by decide)
  have h : step lastByte = .next (lastByte.tookUsbTx [] [0x81] 1) := by
    rw [show step lastByte = exec .flushChunk lastByte from rfl, exec_eq]
    simp only [effect]
    rw [flushChunk_eq, if_pos ⟨rfl, rfl⟩, hr]
    simp only [show lastByte.usbTx = [1] from rfl, hk]
    rfl
  refine ⟨lastByte.tookUsbTx [] [0x81] 1, rfl, rfl, by decide, by decide, fun k hk u hu => ?_, ?_, rfl⟩
  · cases Nat.lt_one_iff.mp hk
    cases hu
    rfl
  · simp only [run, h]

/-- A step from reset, for the statements about every step: it is the holding read. -/
theorem wit_step : step State.reset = .next State.reset := rfl

theorem wit_FramingErrIsSticky : ∃ t, step (buffered [0x6F, 1, 4, 0, 0, 0, 4, 0, 0, 0] []) = .next t ∧
    (buffered [0x6F, 1, 4, 0, 0, 0, 4, 0, 0, 0] []).framingErr = false ∧ t.framingErr = true := by
  have hl : rxbLength Config.params (buffered [0x6F, 1, 4, 0, 0, 0, 4, 0, 0, 0] []) = .ok (le32 1 4 0 0) :=
    rxbLength_ok Config.params_legal (by decide)
  have h : step (buffered [0x6F, 1, 4, 0, 0, 0, 4, 0, 0, 0] []) =
      exec .reassemble (buffered [0x6F, 1, 4, 0, 0, 0, 4, 0, 0, 0] []) := rfl
  rw [h, exec_eq]
  simp only [effect]
  rw [reassemble_eq, if_pos (by decide), if_pos (by decide), hl]
  exact ⟨_, rfl, rfl, rfl⟩

theorem wit_BufferReach : exec .txComplete State.reset = .next (State.reset.raise (.portContract .usbTx)) := rfl

theorem wit_BufferReach_msg : answersInBuild (.powerOff cmd) = true ∧ (building powerOnMessage).fstate = .build ∧
    isProcessorAnswer (.xfrBlockAnswerOk 0) = true ∧ (processing powerOnMessage).fstate = .process ∧
    ∃ t, exec (.powerOff cmd) (building powerOnMessage) = .next t ∧ t.msg ≠ (building powerOnMessage).msg := by
  refine ⟨rfl, rfl, rfl, rfl, ?_⟩
  rw [exec_eq]
  simp only [effect, powerOff]
  rw [headerCommand_eq Config.params_legal, if_pos (show (building powerOnMessage).fstate = .build from rfl)]
  exact ⟨_, rfl, by decide⟩

/-- R206: answers out of range, in the states that receive them. -/
theorem wit_PortContractBreaches : (buffered [] [[]]).usbRx = [] :: [] ∧ (buffered [] [[]]).fill < 10 ∧
    ([] : List Byte).length = 0 ∧
    { phase .rdhdr 1 with i2cRd := [[1, 2, 3, 4, 5]] }.i2cRd = [1, 2, 3, 4, 5] :: [] ∧
    4 < ([1, 2, 3, 4, 5] : List Byte).length ∧ (phase .rdbody 1).rxDecl.toNat + 2 < ([1, 2, 3] : List Byte).length ∧
    State.reset.txInflight = false ∧ State.reset.fstate ≠ .process := by decide
theorem wit_PortContractBreaches_chunk : min Config.params.usbMaxWrite ((flushing 13 [2]).rspLen -
    (flushing 13 [2]).foff) < 2 ∧
    memRead Config.params .msg (flushing 13 [2]).foff (chunkSize Config.params (flushing 13 [2])) (flushing 13 [2]) =
      .ok [0x81] := by
  have h : chunkSize Config.params (flushing 13 [2]) = 1 := Nat.min_eq_right Config.params_legal.usbMaxWrite
  refine ⟨Nat.lt_of_le_of_lt (Nat.le_of_eq h) (by decide), ?_⟩
  rw [h]
  exact memRead_ok (b := .msg) (s := flushing 13 [2])
    (Nat.le_trans (by decide) (capacity_msg Config.params_legal)) (by decide)

theorem wit_CallerWrites : (turning [.callerWrite 4088 [1, 2]] .await .idle).fault = none ∧
    (turning [.callerWrite 4088 [1, 2]] .await .idle).sched = .callerWrite 4088 [1, 2] :: [] ∧
    (turning [.callerWrite 4088 [1, 2]] .await .idle).t1busy = false ∧
    4088 + ([1, 2] : List Byte).length ≤ Config.params.apduCap ∧ (phase .write 1).t1busy = true ∧
    Config.params.apduCap < Config.params.apduCap + ([1] : List Byte).length :=
  ⟨rfl, rfl, rfl, Config.params_legal.apduCap, rfl, Nat.lt_succ_self _⟩

theorem wit_ProcessorWrites : (turning [.processorWrite 1022 [1, 2]] .process .idle).fault = none ∧
    (turning [.processorWrite 1022 [1, 2]] .process .idle).sched = .processorWrite 1022 [1, 2] :: [] ∧
    (turning [.processorWrite 1022 [1, 2]] .process .idle).fstate = .process ∧
    1022 + ([1, 2] : List Byte).length ≤ Config.params.msgPayloadCap ∧
    (turning [.processorWrite 1022 [1, 2]] .build .idle).fstate ≠ .process ∧
    Config.params.msgPayloadCap < Config.params.msgPayloadCap + ([1] : List Byte).length :=
  ⟨rfl, rfl, rfl, Config.params_legal.msgPayloadCap, by decide, Nat.lt_succ_self _⟩

theorem wit_DisabledOperationsChangeNothing : (turning [] .process .idle).fstate ≠ .await ∧
    (turning [] .process .idle).fstate ≠ .build ∧ (turning [] .process .idle).fstate ≠ .flush ∧
    (turning [] .process .idle).t1state ≠ .write ∧ (turning [] .process .idle).t1state ≠ .rdhdr ∧
    (turning [] .process .idle).t1state ≠ .rdbody ∧ (turning [] .flush .idle).fstate ≠ .build ∧
    (turning [] .process .idle).fstate = .process ∧ (0xFFFFFFFF : Word).toInt < 0 ∧ 0 ≤ (0 : Word).toInt ∧ (ready true []).t1busy = false ∧ (ready true []).seq = true ∧
    (ready false []).seq = false := by decide

theorem wit_RequestsHold : Inv State.reset := inv_reset
/-- A flush that waits for its answer. -/
theorem wit_RequestsHold_flush : (flushing 13 []).fstate = .flush ∧ (flushing 13 []).usbTx = [] ∧
    (flushing 13 []).msg.readN (flushing 13 []).foff (min Config.params.usbMaxWrite ((flushing 13 []).rspLen -
      (flushing 13 []).foff)) = some [0x81] := by
  have h : min Config.params.usbMaxWrite ((flushing 13 []).rspLen - (flushing 13 []).foff) = 1 :=
    Nat.min_eq_right Config.params_legal.usbMaxWrite
  refine ⟨rfl, rfl, ?_⟩
  rw [h]
  decide

/-- The invariant in a running phase that waits for its answer. -/
theorem inv_phase (e : T1State) (he : e ≠ .idle) : Inv (phase e 1) where
  buffers := by
    have h1 := capacity_apdu Config.params_legal
    intro b
    cases b
    · simp [State.buf, phase, ready, State.reset, Memory.wf]
    · simp [State.buf, phase, ready, State.reset, Memory.wf]
    · refine ⟨Memory.wf_writeN (m := []) List.Pairwise.nil 0 _, fun c hc => ?_⟩
      rcases Memory.mem_writeN hc with h | h
      · simp only [List.length_cons, List.length_nil] at h; omega
      · cases h
    · refine ⟨Memory.wf_writeN (m := []) List.Pairwise.nil 0 _, fun c hc => ?_⟩
      rcases Memory.mem_writeN hc with h | h
      · simp only [List.length_cons, List.length_nil] at h; simp only [capacity_txf]; omega
      · cases h
  fill_le := Nat.zero_le _
  rxb_valid := by simp [phase, ready, State.reset]
  msg_header := by simp [phase, ready, State.reset]
  rspLen_range := by simp [phase, ready, State.reset]
  foff_lt := by simp [phase, ready, State.reset]
  busy_iff := by simp [phase, he]
  attempt_range := fun _ => ⟨Nat.le_refl 1, Config.params_legal.nAttempts⟩
  frame_len := fun _ => (by decide : (0 : Half).toNat < 4089 ∧ (6 : Half).toNat = (0 : Half).toNat + 6)
  frame_valid := fun _ => (by decide : ∀ a < (6 : Half).toNat, ((phase .idle 1).txf.read a).isSome)
  rxDecl_eq := inv_reset.rxDecl_eq
  body_fits := fun _ => ⟨by simp [phase], Nat.le_trans (by decide : 2 ≤ 4090) Config.params_legal.apduCap⟩

theorem wit_RequestsHold_phases (e : T1State) (he : e ≠ .idle) : Inv (phase e 1) ∧
    (phase e 1).t1state = e ∧ (phase e 1).i2cWr = [] ∧
    (phase e 1).i2cRd = [] := ⟨inv_phase e he, rfl, rfl, rfl⟩

theorem wit_InvIsKept : Inv State.reset ∧ step State.reset = .next State.reset := ⟨inv_reset, rfl⟩

theorem wit_BuffersAreKept : BuffersOk State.reset ∧ step State.reset = .next State.reset := ⟨inv_reset.buffers, rfl⟩

theorem wit_NoBufferBounds : Inv State.reset ∧ State.reset.fault = none ∧
    exec .reassemble State.reset = .next State.reset := ⟨inv_reset, rfl, rfl⟩

theorem wit_OwnStepsReadWrittenBytes : Inv State.reset ∧ State.reset.fault = none ∧ State.reset.fstate ≠ .flush ∧
    framerOp State.reset = some .reassemble ∧ exec .reassemble State.reset = .next State.reset :=
  ⟨inv_reset, rfl, by decide, rfl, rfl⟩
theorem wit_OwnStepsReadWrittenBytes_engine : Inv (phase .write 1) ∧
    engineOp (phase .write 1) = some .t1WriteAttempt :=
  ⟨inv_phase .write (by decide), rfl⟩

theorem wit_EndOfRunIsStable : Inv State.reset ∧ EndOfRun State.reset ∧ State.reset.sched = [] :=
  ⟨inv_reset, ⟨rfl, .inl (by decide), rfl, rfl, rfl, rfl⟩, rfl⟩

end Sys2Proof.Tests
end

section
/-! SUPPORT. The fault record (R42) and the sticky bit `FRAMING_ERR` (R28): what every operation and every step keeps of
them. -/

namespace Sys2Proof.Machine

/-! ### The fault record -/

/-- No step is taken while `FAULT` is set (R42). -/
theorem step_of_fault {s : State} {f : Fault} (h : s.fault = some f) : step s = .fault f := by
  simp [step, h]

/-- Raising keeps the first fault raised (R42). -/
theorem State.raise_fault_of_some {s : State} {f : Fault} (h : s.fault = some f) (g : Fault) :
    (s.raise g).fault = some f := by
  simp [h]

/-- No operation replaces a recorded fault: without a fault of its own it leaves the record, with one it raises it
behind the first (R42). -/
theorem exec_keeps_fault {i : Instr} {s t : State} {f : Fault} (h : exec i s = .next t) (hf : s.fault = some f) :
    t.fault = some f := by
  rcases exec_cases h with hd | ⟨g, rfl⟩
  · exact hd.fault_eq.trans hf
  · exact State.raise_fault_of_some hf g

/-- Settles O7, from what an operation can end in: `Did` leaves the record as it was, and `raise` keeps the first
fault. -/
theorem faultRecordHolds : Obligations.FaultRecordHolds := by
  refine ⟨rfl, fun s f hs => ?_, fun s f => step_of_fault, fun i s t f => exec_keeps_fault⟩
  simp [hs]

/-! ### `FRAMING_ERR` -/

/-- `t` is what a discard leaves of a state `s` that holds a whole header with a length above 1024 in AWAIT (R156), as
far as R28 speaks of it. -/
def DiscardedOverlong (s t : State) : Prop :=
  s.fstate = .await ∧ 10 ≤ s.fill ∧ t.fill = 0 ∧ t.framingErr = true ∧
    ∃ l0 l1 l2 l3, s.rxb.readN 1 4 = some [l0, l1, l2, l3] ∧ 1024 < (le32 l0 l1 l2 l3).toNat

/-- An operation without a fault leaves `FRAMING_ERR` as it was, or is the discard, which sets it (R28, R156). -/
theorem Did.framingErr_cases {i : Instr} {s t : State} (h : Did i s t) :
    t.framingErr = s.framingErr ∨ DiscardedOverlong s t := by
  cases h with
  | discard len hs hf hr hl =>
    obtain ⟨l0, l1, l2, l3, hb, rfl⟩ := rxbLength_eq_ok hr
    exact .inr ⟨hs, hf, rfl, rfl, l0, l1, l2, l3, hb, hl⟩
  | _ => left; simp

/-- A step leaves `FRAMING_ERR` as it was, or takes the discard, which sets it (R28). -/
theorem step_framingErr_cases {s t : State} (h : step s = .next t) :
    t.framingErr = s.framingErr ∨ DiscardedOverlong s t :=
  step_relation (R := fun s t => t.framingErr = s.framingErr ∨ DiscardedOverlong s t) h
    (turn := fun _ _ _ => id)
    (same := fun _ => .inl rfl)
    (raise := fun _ _ => .inl rfl)
    (op := fun _ _ _ _ _ _ hd => hd.framingErr_cases)
    (processor := fun _ _ _ _ _ => .inl rfl)
    (caller := fun _ _ _ _ _ => .inl rfl)

/-- Settles O46: of everything a step can be only the discard writes the bit, and it sets it. -/
theorem framingErrIsSticky : Obligations.FramingErrIsSticky := by
  refine ⟨rfl, fun s t h => ?_⟩
  rcases step_framingErr_cases h with he | ⟨hs, hf, hf0, ht, hlen⟩
  · exact ⟨fun h1 => he.trans h1, fun h0 h1 => by simp [he, h0] at h1⟩
  · exact ⟨fun _ => ht, fun _ _ => ⟨hs, hf, hf0, hlen⟩⟩

end Sys2Proof.Machine
end

section
/-! SUPPORT. The CRC engine's two operations (40_crc16.md): the update in the rule's words (R102), and what CRC16 and
FRAME_CRC leave in the record of the ports. -/

namespace Sys2Proof.Machine

/-- R102 indexes the table by a `u16` under the mask `0xFF`; what stands there is the low byte. -/
theorem and_0xFF_toNat (v : Half) : (v &&& 0xFF).toNat = (v.setWidth 8).toNat := by
  rw [BitVec.toNat_and, BitVec.toNat_setWidth]
  exact Nat.and_two_pow_sub_one_eq_mod v.toNat 8

/-- One byte of the update in the rule's own words (R102): the table at `(crc ^ b) & 0xFF`, against `crc >> 8`. -/
theorem crcUpdate_eq_rule (crc : Half) (b : Byte) :
    crcUpdate crc b = crcTable.getD ((crc ^^^ b.setWidth 16) &&& 0xFF).toNat 0 ^^^ (crc >>> 8) := by
  have hindex : (crc ^^^ b.setWidth 16).setWidth 8 = crc.setWidth 8 ^^^ b := by
    rw [BitVec.setWidth_xor, BitVec.setWidth_setWidth_of_le b (by decide), BitVec.setWidth_eq]
  rw [crcUpdate, crcLookup, and_0xFF_toNat, hindex]

/-- The checksum is the rule's loop over the bytes (R102). -/
theorem crc16_eq_foldl_rule (data : List Byte) (seed : Half) :
    crc16 data seed = data.foldl (fun (crc : Half) (b : Byte) =>
      crcTable.getD ((crc ^^^ b.setWidth 16) &&& 0xFF).toNat 0 ^^^ (crc >>> 8)) seed := by
  simp only [crc16, ← crcUpdate_eq_rule]

/-- CRC16 records its answer and writes no register (R100, R102). -/
theorem exec_crc16_eq (data : List Byte) (seed : Half) (s : State) :
    exec (.crc16 data seed) s = .next (s.record (.crcAnswer (crc16 data seed))) :=
  exec_eq_next.mpr (.inl rfl)

/-- FRAME_CRC records its two bytes and writes no register (R100, R103). -/
theorem exec_frameCrc_eq (f : List Byte) (s : State) :
    exec (.frameCrc f) s = .next (s.record (.frameCrcAnswer (frameCrc f))) :=
  exec_eq_next.mpr (.inl rfl)

/-- Settles O10: the model's update is the rule's, byte for byte, and the checksum is a fold over the bytes. -/
theorem crc16Result : Obligations.Crc16Result := by
  refine ⟨fun data seed s => ?_, fun seed s => ?_, crc16_append⟩
  · rw [exec_crc16_eq, crc16_eq_foldl_rule]
    rfl
  · rw [exec_crc16_eq, crc16_nil]
    rfl

/-- Settles O11: the recorded bytes are `be16bytes` of the complement of the checksum with the seed `CRC_SEED`. -/
theorem frameCrcResult : Obligations.FrameCrcResult := by
  intro f s
  rw [exec_frameCrc_eq]
  rfl

end Sys2Proof.Machine
end

section
/-! SUPPORT. The T=1′ engine's operations (41_t1_transport.md): an accepted start, what each phase's attempt does with a
pending answer, and who writes `SEQ`. -/

namespace Sys2Proof.Machine

open Sys2Proof.Safety (bytesAt frameBytes accepted ended retried isStart)

/-- An operation whose effect is a state answers that state. -/
theorem exec_eq_next_of_effect {i : Instr} {s t : State} (h : effect i s = .ok t) : exec i s = .next t :=
  exec_eq_next.mpr (.inl h)

/-! ### Starts -/

/-- A request on a free engine, with a payload that stands in `APDU` and is short enough, is accepted (R112). -/
theorem transact_accepted {p : Params} (hp : p.Legal) {pcb : Byte} {o e : Half} {s : State} {data : List Byte}
    (hb : s.t1busy = false) (ho : o.toNat < 4089) (hd : s.apdu.readN 0 o.toNat = some data) :
    transact p pcb o e s = .ok (startedState p pcb o e data s) :=
  (transact_free hb).trans (startTransaction_accepted hp ho hd)

/-- Settles O13: both rows are one accepted start, whose frame is one write of `TXF` from address 0. -/
theorem transactStarts : Obligations.TransactStarts := by
  intro pcb o e s data hb ho hd
  have hstart := transact_accepted Config.params_legal (pcb := pcb) (e := e) hb ho hd
  exact ⟨s.txf.writeN 0 (frameBytes Config.params.nadTx pcb (if o.toNat > 0 then o else e) data),
    exec_eq_next_of_effect (i := .t1Transact pcb o e) hstart, exec_eq_next_of_effect (i := .anyPcb pcb o e) hstart,
    Memory.read_writeN _ _ _⟩

/-! ### `SEQ` -/

/-- An operation that is no start leaves `SEQ` as it was (R129). -/
theorem Did.seq_eq {i : Instr} {s t : State} (h : Did i s t) (hi : isStart i = false) : t.seq = s.seq := by
  cases h with
  | reject _ _ _ _ _ hstart => simp [hi] at hstart
  | start _ _ _ _ _ _ hstart => simp [hi] at hstart
  | _ => simp

/-- Only `PCB_RESET` resets `SEQ` (R113). -/
theorem seqAfterStart_of_ne {p : Params} {pcb : Byte} (h : pcb ≠ p.pcbReset) (seq : Bool) :
    seqAfterStart p pcb seq = seq := if_neg h

/-- A request whose PCB is not `PCB_RESET` leaves `SEQ` as it was, accepted or rejected (R113, R129). -/
theorem transact_keeps_seq {p : Params} (hp : p.Legal) {pcb : Byte} {o e : Half} {s t : State}
    (hpcb : pcb ≠ p.pcbReset) (h : transact p pcb o e s = .ok t) : t.seq = s.seq := by
  cases hb : s.t1busy with
  | true => simp [transact_busy hb] at h
  | false =>
    rw [transact_free hb, startTransaction_eq hp] at h
    split at h
    · cases h
      exact seqAfterStart_of_ne hpcb s.seq
    · split at h
      · cases h
        exact seqAfterStart_of_ne hpcb s.seq
      · cases h

/-- Settles O20: of everything an operation can end in only the two outcomes of a start write `SEQ`, and those of a PCB
other than `PCB_RESET` write it with its own value. -/
theorem onlyStartsWriteSeq : Obligations.OnlyStartsWriteSeq := by
  intro i s t h
  rcases exec_eq_next.mp h with hok | ⟨f, -, rfl⟩
  · refine ⟨(effect_did hok).seq_eq, ?_⟩
    rintro pcb o e (rfl | rfl) hpcb
    · exact transact_keeps_seq Config.params_legal hpcb hok
    · exact transact_keeps_seq Config.params_legal hpcb hok
  · exact ⟨fun _ => rfl, fun _ _ _ _ _ => rfl⟩

/-! ### A failed attempt -/

/-- Before the `N_ATTEMPTS`-th attempt a failure is followed by the next one (R118). -/
theorem failedState_of_lt {p : Params} {s : State} (h : s.attempt < p.nAttempts) : failedState p s = retried s :=
  if_pos h

/-- The failure of the `N_ATTEMPTS`-th attempt ends the transaction (R118, R126). -/
theorem failedState_of_le {p : Params} {s : State} (h : p.nAttempts ≤ s.attempt) :
    failedState p s = ended 0 { s with apdu := s.apdu.writeN 0 p.genericErr } :=
  if_neg (Nat.not_lt.mpr h)

/-- What an operation answers when its attempt failed in the state `s₁`: the next attempt, or the end with result 0 and
the generic-error bytes in `APDU` (R118, R126). -/
theorem exec_of_failedState (i : Instr) {s s₁ : State} (h : effect i s = .ok (failedState Config.params s₁)) :
    (s₁.attempt < Config.params.nAttempts → exec i s = .next (retried s₁)) ∧
    (Config.params.nAttempts ≤ s₁.attempt → ∃ apdu, exec i s = .next (ended 0 { s₁ with apdu := apdu }) ∧
      ∀ a, apdu.read a = (bytesAt 0 Config.params.genericErr a).or (s₁.apdu.read a)) := by
  refine ⟨fun hlt => ?_, fun hle => ⟨s₁.apdu.writeN 0 Config.params.genericErr, ?_, Memory.read_writeN _ _ _⟩⟩
  · rw [exec_eq_next_of_effect h, failedState_of_lt hlt]
  · rw [exec_eq_next_of_effect h, failedState_of_le hle]

/-! ### The write phase -/

section
variable {p : Params} {s : State} {f : List Byte} {rest : List Int}

/-- A write attempt answered with 0 enters the header phase (R117). -/
theorem writeAttempt_success (hp : p.Legal) (hs : s.t1state = .write) (hf : memRead p .txf 0 s.txfLen.toNat s = .ok f)
    (hu : s.i2cWr = 0 :: rest) :
    writeAttempt p s = .ok ((s.tookI2cWr rest (.i2cWrite p.seAddr f 0)).enterPhase .rdhdr) := by
  simp [writeAttempt_eq hp, hs, hf, hu]

/-- A write attempt answered with another status failed (R117). -/
theorem writeAttempt_failure {st : Int} (hp : p.Legal) (hs : s.t1state = .write)
    (hf : memRead p .txf 0 s.txfLen.toNat s = .ok f) (hu : s.i2cWr = st :: rest) (hst : st ≠ 0) :
    writeAttempt p s = .ok (failedState p (s.tookI2cWr rest (.i2cWrite p.seAddr f st))) := by
  simp [writeAttempt_eq hp, hs, hf, hu, hst]

end

/-- Settles O22: status 0 is the attempt's success, any other its failure. -/
theorem writeAttemptOutcomes : Obligations.WriteAttempt := by
  rintro s _ f st rest hs hlen hread hu rfl
  have hf : memRead Config.params .txf 0 s.txfLen.toNat s = .ok f :=
    memRead_ok (by rw [capacity_txf]; omega) hread
  refine ⟨?_, fun hst => ?_, fun hst => ?_⟩
  · rintro rfl
    exact exec_eq_next_of_effect (writeAttempt_success Config.params_legal hs hf hu)
  · exact (exec_of_failedState .t1WriteAttempt (writeAttempt_failure Config.params_legal hs hf hu hst)).1
  · exact (exec_of_failedState .t1WriteAttempt (writeAttempt_failure Config.params_legal hs hf hu hst)).2

/-! ### The header phase -/

/-- What follows a whole header, in the words of the statements: the end with 0 when no payload was requested (R122), the
end with −2 when the body does not fit `APDU` (R123), the body phase otherwise (R120). -/
theorem afterHeader_eq (p : Params) (s : State) :
    afterHeader p s =
      if s.t1explen = 0 then ended 0 s
      else if p.apduCap < bodySize s then ended 0xFFFFFFFE s
      else s.enterPhase .rdbody := by
  have hzero : s.t1explen.toNat = 0 ↔ s.t1explen = 0 := BitVec.toNat_inj (y := 0)
  simp only [afterHeader, hzero]
  rfl

/-- An answer of 4 bytes is the header (R120, R121). -/
theorem rdhdrAttempt_header {p : Params} (hp : p.Legal) {s : State} {nad pcb hi lo : Byte} {rest : List (List Byte)}
    (hs : s.t1state = .rdhdr) (hu : s.i2cRd = [nad, pcb, hi, lo] :: rest) :
    rdhdrAttempt p s = .ok (afterHeader p
      ((s.tookI2cRd rest (.i2cRead p.seAddr 4 [nad, pcb, hi, lo])).setHeader ⟨nad, pcb, hi, lo⟩)) := by
  simp [rdhdrAttempt_eq hp, hs, hu]

/-- A shorter answer is a failed attempt (R120). -/
theorem rdhdrAttempt_short {p : Params} (hp : p.Legal) {s : State} {r : List Byte} {rest : List (List Byte)}
    (hs : s.t1state = .rdhdr) (hu : s.i2cRd = r :: rest) (hr : r.length < 4) :
    rdhdrAttempt p s = .ok (failedState p (s.tookI2cRd rest (.i2cRead p.seAddr 4 r))) := by
  simp only [rdhdrAttempt_eq hp, if_pos hs, hu]
  split
  · simp at hr
  · exact if_neg (by omega)

/-- Settles O23: 4 bytes are the header, with one of three ends after it; a shorter answer is the attempt's failure. -/
theorem headerAttempt : Obligations.HeaderAttempt := by
  rintro s _ r rest hs hu rfl
  refine ⟨?_, fun hr => ?_, fun hr => ?_⟩
  · rintro nad pcb hi lo s₂ rfl hs₂
    have hexp : s₂.t1explen = s.t1explen := by rw [hs₂]
    have hbody : bodySize s₂ = (be16 hi lo).toNat + 2 := by rw [hs₂]; rfl
    have hheader : exec .t1RdhdrAttempt s = .next (afterHeader Config.params s₂) := by
      rw [hs₂]
      exact exec_eq_next_of_effect (rdhdrAttempt_header Config.params_legal hs hu)
    rw [hheader, afterHeader_eq, hbody]
    refine ⟨fun he => ?_, fun he hbig => ?_, fun he hfits => ?_⟩
    · rw [if_pos (hexp.trans he)]
    · rw [if_neg (hexp ▸ he), if_pos hbig]
    · rw [if_neg (hexp ▸ he), if_neg (Nat.not_lt.mpr hfits)]
      rfl
  · exact (exec_of_failedState .t1RdhdrAttempt (rdhdrAttempt_short Config.params_legal hs hu hr)).1
  · exact (exec_of_failedState .t1RdhdrAttempt (rdhdrAttempt_short Config.params_legal hs hu hr)).2

/-! ### The body phase -/

section
variable {p : Params} {s : State} {r : List Byte} {rest : List (List Byte)}

/-- An answer of `RX_DECL + 2` bytes is the body (R124, R125). -/
theorem rdbodyAttempt_body (hp : p.Legal) (hs : s.t1state = .rdbody) (hfit : bodySize s ≤ p.apduCap)
    (hu : s.i2cRd = r :: rest) (hr : r.length = bodySize s) :
    rdbodyAttempt p s = .ok (ended (BitVec.ofNat 32 s.rxDecl.toNat)
      { s.tookI2cRd rest (.i2cRead p.seAddr (bodySize s) r) with apdu := s.apdu.writeN 0 r }) := by
  simp only [rdbodyAttempt_eq hp (fun _ => hfit), if_pos hs, hu, hr, gt_iff_lt, Nat.lt_irrefl, if_false, if_true,
    BitVec.ofNat_toNat]
  rfl

/-- A shorter answer is a failed attempt (R124). -/
theorem rdbodyAttempt_short (hp : p.Legal) (hs : s.t1state = .rdbody) (hfit : bodySize s ≤ p.apduCap)
    (hu : s.i2cRd = r :: rest) (hr : r.length < bodySize s) :
    rdbodyAttempt p s = .ok (failedState p (s.tookI2cRd rest (.i2cRead p.seAddr (bodySize s) r))) := by
  simp only [rdbodyAttempt_eq hp (fun _ => hfit), if_pos hs, hu]
  rw [if_neg (by omega), if_neg (by omega)]

end

/-- Settles O24: an answer of the asked length is the body, a shorter one the attempt's failure. -/
theorem bodyAttempt : Obligations.BodyAttempt := by
  rintro s _ r rest hs hfit hu rfl
  refine ⟨fun hr => ⟨s.apdu.writeN 0 r, ?_, Memory.read_writeN _ _ _⟩, fun hr => ?_, fun hr => ?_⟩
  · exact exec_eq_next_of_effect (rdbodyAttempt_body Config.params_legal hs hfit hu hr)
  · exact (exec_of_failedState .t1RdbodyAttempt (rdbodyAttempt_short Config.params_legal hs hfit hu hr)).1
  · exact (exec_of_failedState .t1RdbodyAttempt (rdbodyAttempt_short Config.params_legal hs hfit hu hr)).2

end Sys2Proof.Machine
end

section
/-! SUPPORT. REASSEMBLE (42_reassembler.md): its three branches while `FSTATE = AWAIT`, chosen by `FILL` and the length
field (R151), and what each leaves in the buffers. -/

namespace Sys2Proof.Machine

open Sys2Proof.Safety (bytesAt)

/-! ### Bytes moved to the front of a buffer -/

/-- The `n` bytes read at address `a` of `src` and written to the front of `dst` stand there; the rest of `dst` is as
before. -/
theorem Memory.read_writeN_moved {src : Memory} {a n : Nat} {bs : List Byte} (h : src.readN a n = some bs)
    (dst : Memory) (x : Nat) : (dst.writeN 0 bs).read x = if x < n then src.read (a + x) else dst.read x := by
  have hl := Memory.readN_length h
  rw [Memory.read_writeN]
  by_cases hx : x < n
  · rw [if_pos hx, Memory.readN_read h hx]
    simp [bytesAt, hl, hx]
  · simp [bytesAt, hl, hx]

/-- The first `n` of the bytes that can be read from the front. -/
theorem Memory.readN_take {m : Memory} {len n : Nat} {bs : List Byte} (h : m.readN 0 len = some bs) (hn : n ≤ len) :
    m.readN 0 n = some (bs.take n) := by
  simpa using Memory.readN_part h (a := 0) (k := n) (by omega)

/-- All but the first `n` of the bytes that can be read from the front. -/
theorem Memory.readN_drop {m : Memory} {len n : Nat} {bs : List Byte} (h : m.readN 0 len = some bs) (hn : n ≤ len) :
    m.readN n (len - n) = some (bs.drop n) := by
  rw [Memory.readN_part h (by omega), List.take_of_length_le]
  simp [Memory.readN_length h]

/-! ### The branches of `Reassemble` -/

section
variable {p : Params} {s : State} {l0 l1 l2 l3 : Byte}

/-- With a whole header buffered, its length field decides: discard, yield, or read on (R151, R153). -/
theorem reassemble_header (hp : p.Legal) (hs : s.fstate = .await) (hf : 10 ≤ s.fill)
    (hl : s.rxb.readN 1 4 = some [l0, l1, l2, l3]) :
    reassemble p s =
      if 1024 < (le32 l0 l1 l2 l3).toNat then .ok (discard s)
      else if 10 + (le32 l0 l1 l2 l3).toNat ≤ s.fill then yieldMessage p (10 + (le32 l0 l1 l2 l3).toNat) s
      else readMore p s := by
  rw [reassemble_eq, if_pos hs, if_pos (show s.fill ≥ Config.hdr from hf), rxbLength_ok hp hl]
  rfl

/-- A header cut short is read on (R151). -/
theorem reassemble_short (hs : s.fstate = .await) (hf : s.fill < 10) : reassemble p s = readMore p s := by
  rw [reassemble_eq, if_pos hs, if_neg (show ¬ s.fill ≥ Config.hdr from Nat.not_le.mpr hf)]

/-- A legal header whose message is cut short is read on (R151). -/
theorem reassemble_incomplete (hp : p.Legal) (hs : s.fstate = .await) (hl : s.rxb.readN 1 4 = some [l0, l1, l2, l3])
    (hlen : (le32 l0 l1 l2 l3).toNat ≤ 1024) (hf : s.fill < 10 + (le32 l0 l1 l2 l3).toNat) :
    reassemble p s = readMore p s := by
  by_cases h10 : s.fill < 10
  · exact reassemble_short hs h10
  · rw [reassemble_header hp hs (Nat.not_lt.mp h10) hl, if_neg (Nat.not_lt.mpr hlen), if_neg (Nat.not_le.mpr hf)]

/-- A complete message is yielded (R155). -/
theorem reassemble_complete (hp : p.Legal) (hs : s.fstate = .await) (hl : s.rxb.readN 1 4 = some [l0, l1, l2, l3])
    (hlen : (le32 l0 l1 l2 l3).toNat ≤ 1024) (hf : 10 + (le32 l0 l1 l2 l3).toNat ≤ s.fill) :
    reassemble p s = yieldMessage p (10 + (le32 l0 l1 l2 l3).toNat) s := by
  rw [reassemble_header hp hs (by omega) hl, if_neg (Nat.not_lt.mpr hlen), if_pos hf]

end

/-! ### The yield -/

/-- A yield of the first `n` buffered bytes, written out: two buffers, `FILL` and `FSTATE` (R155). -/
theorem yieldedState_take_drop {s : State} {bs : List Byte} {n : Nat} (hr : s.rxb.readN 0 s.fill = some bs)
    (hn : n ≤ s.fill) :
    yieldedState s (bs.take n) (bs.drop n) =
      { s with
        rxb := s.rxb.writeN 0 (bs.drop n), msg := s.msg.writeN 0 (bs.take n)
        fill := s.fill - n, fstate := .build } := by
  rw [yieldedState, Memory.readN_length (Memory.readN_take hr hn)]

/-! ### The read -/

section
variable {p : Params} {s : State}

/-- A request without an answer holds (R60, log 2). -/
theorem readMore_hold (hu : s.usbRx = []) : readMore p s = .ok s := by
  rw [readMore_eq, hu]

/-- An answer within the port's range is appended at `FILL` (R152). -/
theorem readMore_append {c : List Byte} {rest : List (List Byte)} (hu : s.usbRx = c :: rest) (h1 : 1 ≤ c.length)
    (hfree : c.length ≤ freeSpace p s) :
    readMore p s = .ok ((s.setBuf .rxb (s.rxb.writeN s.fill c)).tookUsbRx p rest c) := by
  rw [readMore_eq, hu]
  exact if_neg (by omega)

end

/-! ### The statements -/

/-- Settles O27: a whole header with such a length takes the first branch, the discard. -/
theorem reassembleDiscards : Obligations.ReassembleDiscards := by
  intro s l0 l1 l2 l3 hs hf hl hlen
  refine exec_eq_next_of_effect (i := .reassemble) (t := discard s) ?_
  exact (reassemble_header Config.params_legal hs hf hl).trans (if_pos hlen)

/-- Settles O28: in both cases the step is `ReadMore`, with `FILL` below `1034 ≤ RX_CAP`. -/
theorem reassembleReads : Obligations.ReassembleReads := by
  intro s hs hcase
  have hcap : 1034 ≤ Config.params.rxCap := Config.params_legal.rxCap
  obtain ⟨hfill, hread⟩ : s.fill < 1034 ∧ reassemble Config.params s = readMore Config.params s := by
    rcases hcase with hf | ⟨l0, l1, l2, l3, hl, hlen, hf⟩
    · exact ⟨by omega, reassemble_short hs hf⟩
    · exact ⟨by omega, reassemble_incomplete Config.params_legal hs hl hlen hf⟩
  refine ⟨by omega, fun hu => ?_, fun c rest hu h1 hfree => ⟨s.rxb.writeN s.fill c, ?_, Memory.read_writeN _ _ _⟩⟩
  · exact exec_eq_next_of_effect (i := .reassemble) (hread.trans (readMore_hold hu))
  · exact exec_eq_next_of_effect (i := .reassemble) (hread.trans (readMore_append hu h1 hfree))

/-- Settles O26: the step is the yield at `B`; `MSG` gets the first `B` buffered bytes, `RXB` those beyond them. -/
theorem reassembleYields : Obligations.ReassembleYields := by
  intro s t l0 l1 l2 l3 tail hs hcap hr hlen hf
  have hl : s.rxb.readN 1 4 = some [l0, l1, l2, l3] := Memory.readN_part hr (by omega)
  have hyield := (reassemble_complete Config.params_legal hs hl hlen hf).trans
    (yieldMessage_eq Config.params_legal hr hcap hf (by omega))
  rw [yieldedState_take_drop hr hf] at hyield
  refine ⟨_, _, exec_eq_next_of_effect (i := .reassemble) hyield, fun a => ?_,
    Memory.read_writeN_moved (Memory.readN_drop hr hf) s.rxb⟩
  rw [Memory.read_writeN_moved (Memory.readN_take hr hf), Nat.zero_add]

end Sys2Proof.Machine
end

section
/-! SUPPORT. The dispatcher's commands and the processor's answer (43_dispatcher.md): DISPATCH is the command the whole
byte `MSG[0]` selects (R171), and every response is one run of the header writer (R172). -/

namespace Sys2Proof.Machine

open Sys2Proof.Safety (answered)

/-! ### A written response -/

/-- The header writer's end in the words of the statements: a message buffer and the flush's registers (R172). -/
theorem respondedState_eq_answered (rtype : Byte) (len : Word) (status error param : Byte) (s : State) :
    respondedState rtype len status error param s =
      answered len (respondedMsg rtype len status error param s.msg) s := rfl

/-- In BUILD a command that only writes a header completes (R176, R177, R181 to R184). -/
theorem headerCommand_build {p : Params} (hp : p.Legal) {s : State} (hs : s.fstate = .build) (rtype : Byte) (len : Word)
    (status error param : Byte) :
    whenEnabled (s.fstate == .build) s (respond p rtype len status error param s) =
      .ok (answered len (respondedMsg rtype len status error param s.msg) s) := by
  rw [headerCommand_eq hp, if_pos hs, respondedState_eq_answered]

/-- In BUILD power-on puts its payload in place and then the header before it (R174, R175). -/
theorem powerOn_build {p : Params} (hp : p.Legal) {s : State} (hs : s.fstate = .build) :
    powerOn p s = .ok (answered 4
      (respondedMsg Config.rspDataBlock 4 0x00 0x00 0x00 (s.msg.writeN 10 Config.atrBytes)) s) := by
  rw [powerOn_eq hp, if_pos hs]
  rfl

/-- In BUILD a transfer-block asks the processor with the length field of `MSG` (R178). -/
theorem xfrBlockStart_build {p : Params} {s : State} {len : Word} (hs : s.fstate = .build)
    (hlen : msgLength p s = .ok len) :
    xfrBlockStart p s = .ok { s.record (.process len) with fstate := .process } := by
  rw [xfrBlockStart_eq, if_pos hs, hlen]

/-! ### The selected command -/

/-- The operation of a type byte, written out as the selection of R171. -/
theorem commandOf_eq_ite (t : Byte) (m : CcidCommand) :
    commandOf t m =
      if t = Config.cmdPowerOn then .powerOn m
      else if t = Config.cmdPowerOff then .powerOff m
      else if t = Config.cmdGetSlotStatus then .getSlotStatus m
      else if t = Config.cmdXfrBlock then .xfrBlock m
      else if t = Config.cmdGetParameters then .getParameters m
      else if t = Config.cmdResetParameters then .resetParameters m
      else if t = Config.cmdSetParameters then .setParameters m
      else .unknown t m := by
  iterate 7
    split
    · subst t
      rfl
  have hk : commandKind t = .unknown := by simp [commandKind, *]
  simp [commandOf, hk]

/-- Only `CMD_XFR_BLOCK` selects the transfer-block (R80). -/
theorem commandKind_eq_xfrBlock {t : Byte} : commandKind t = .xfrBlock ↔ t = Config.cmdXfrBlock := by
  constructor
  · intro h
    unfold commandKind at h
    iterate 3
      split at h
      · cases h
    split at h
    · assumption
    iterate 3
      split at h
      · cases h
    cases h
  · rintro rfl
    rfl

/-- A command row alone has the effect of its row of the dispatch table (R171, R173). -/
theorem effect_commandOf (t : Byte) (m : CcidCommand) (s : State) :
    effect (commandOf t m) s = runCommand Config.params (commandKind t) s := by
  unfold commandOf
  cases commandKind t <;> rfl

/-- In BUILD `Dispatch` runs the row that `MSG[0]` selects (R171). -/
theorem dispatch_build {p : Params} (hp : p.Legal) {s : State} {t : Byte} (hs : s.fstate = .build)
    (ht : s.msg.read 0 = some t) : dispatch p s = runCommand p (commandKind t) s := by
  have hcap := capacity_msg hp
  have hread : memRead p .msg 0 1 s = .ok [t] :=
    memRead_ok (by omega) (Memory.readN_eq_some.mpr ⟨rfl, fun k hk => by simpa [Nat.lt_one_iff.mp hk] using ht⟩)
  simp [dispatch, hs, hread]

/-- Every row of the dispatch table completes in BUILD where the length field can be read: a transfer-block waits for
the processor, every other row has written its response (R173). -/
theorem runCommand_completes {p : Params} (hp : p.Legal) {s : State} {len : Word} (k : CommandKind)
    (hs : s.fstate = .build) (hlen : msgLength p s = .ok len) :
    ∃ u, runCommand p k s = .ok u ∧ u.fault = s.fault ∧ u.fstate = if k = .xfrBlock then .process else .flush := by
  cases k with
  | powerOn => exact ⟨_, powerOn_build hp hs, rfl, rfl⟩
  | xfrBlock => exact ⟨_, xfrBlockStart_build hs hlen, rfl, rfl⟩
  | powerOff | getSlotStatus | getParameters | resetParameters | setParameters | unknown =>
    exact ⟨_, headerCommand_build hp hs _ _ _ _ _, rfl, rfl⟩

/-- The length field can be read where the header stands in `MSG` (R71). -/
theorem exists_msgLength {p : Params} (hp : p.Legal) {s : State} (h : ∀ a < 10, (s.msg.read a).isSome) :
    ∃ len, msgLength p s = .ok len := by
  obtain ⟨bs, hbs⟩ := Memory.exists_readN (m := s.msg) (a := 1) (n := 4) fun k hk => h (1 + k) (by omega)
  match bs, Memory.readN_length hbs with
  | [l0, l1, l2, l3], _ => exact ⟨le32 l0 l1 l2 l3, msgLength_ok hp hbs⟩

/-- Settles O30: DISPATCH and the selected command row are one row of the dispatch table, and every row completes when
the length field stands in `MSG`. -/
theorem dispatchRunsTheCommand : Obligations.DispatchRunsTheCommand := by
  intro s t m hs ht
  have hrow : effect .dispatch s = runCommand Config.params (commandKind t) s :=
    dispatch_build Config.params_legal hs ht
  refine ⟨?_, fun hheader => ?_⟩
  · rw [← commandOf_eq_ite, exec_eq, exec_eq, effect_commandOf, hrow]
  · obtain ⟨len, hlen⟩ := exists_msgLength Config.params_legal hheader
    obtain ⟨u, hu, hfault, hstate⟩ := runCommand_completes Config.params_legal (commandKind t) hs hlen
    simp only [commandKind_eq_xfrBlock] at hstate
    exact ⟨u, exec_eq_next_of_effect (hrow.trans hu), hfault, hstate⟩

/-! ### The commands -/

/-- Settles O31: the payload lies at 10..13, clear of the header's bytes. -/
theorem powerOnResult : Obligations.PowerOnResult := by
  intro m s hs
  refine ⟨_, exec_eq_next_of_effect (i := .powerOn m) (powerOn_build Config.params_legal hs), fun a => ?_⟩
  rw [read_respondedMsg, Memory.read_writeN, Option.or_assoc]
  rfl

/-- An operation whose effect in BUILD is one run of the header writer answers that response (R172). -/
theorem exec_headerCommand {i : Instr} {s : State} {rtype : Byte} {len : Word} {status error param : Byte}
    (hs : s.fstate = .build)
    (h : effect i s =
      whenEnabled (s.fstate == .build) s (respond Config.params rtype len status error param s)) :
    exec i s = .next (answered len (respondedMsg rtype len status error param s.msg) s) :=
  exec_eq_next_of_effect (h.trans (headerCommand_build Config.params_legal hs _ _ _ _ _))

/-- Settles O32: both rows are the same run of the header writer. -/
theorem slotStatusResults : Obligations.SlotStatusResults := fun m _ hs =>
  ⟨_, exec_headerCommand (i := .powerOff m) hs rfl, exec_headerCommand (i := .getSlotStatus m) hs rfl,
    read_respondedMsg _ _ _ _ _ _⟩

/-- Settles O33: the three rows are the same run of the header writer. -/
theorem parametersResults : Obligations.ParametersResults := fun m _ hs =>
  ⟨_, exec_headerCommand (i := .getParameters m) hs rfl, exec_headerCommand (i := .resetParameters m) hs rfl,
    exec_headerCommand (i := .setParameters m) hs rfl, read_respondedMsg _ _ _ _ _ _⟩

/-- Settles O34: one run of the header writer, which does not look at the type byte. -/
theorem unknownResult : Obligations.UnknownResult := fun t m _ hs =>
  ⟨_, exec_headerCommand (i := .unknown t m) hs rfl, read_respondedMsg _ _ _ _ _ _⟩

/-- Settles O35: the length field is the four bytes at `MSG[1..5)`. -/
theorem xfrBlockStarts : Obligations.XfrBlockStarts := by
  intro m s l0 l1 l2 l3 hs hl
  exact exec_eq_next_of_effect (i := .xfrBlock m)
    (xfrBlockStart_build hs (msgLength_ok Config.params_legal hl))

/-! ### The processor's answer -/

/-- Settles O36: the answer's bound is the only test left in PROCESS; the payload's bytes are not written. -/
theorem answerOkResult : Obligations.AnswerOkResult := by
  intro rv s hs hrv
  have hanswer : effect (.xfrBlockAnswerOk rv) s =
      if rv.toInt > Config.params.msgPayloadCap then .error (.procOverrun rv)
      else .ok (answered rv (respondedMsg Config.rspDataBlock rv 0x00 0x00 0x00 s.msg) s) := by
    change answerOk Config.params rv s = _
    rw [answerOk_eq Config.params_legal, if_neg (Classical.not_not.mpr hs), if_neg (Int.not_lt.mpr hrv),
      respondedState_eq_answered]
  refine ⟨fun hfits => ⟨_, ?_, read_respondedMsg _ _ _ _ _ _⟩, fun hover => ?_⟩
  · exact exec_eq_next_of_effect (hanswer.trans (if_neg (Int.not_lt.mpr hfits)))
  · rw [exec_eq, hanswer, if_pos hover, settle_error]

/-- The error byte is the magnitude modulo 256 (R185). -/
theorem errByte_eq_ofNat (rv : Word) : errByte rv = BitVec.ofNat 8 ((-rv.toInt) % 256).toNat := by
  apply BitVec.eq_of_toNat_eq
  rw [errByte, BitVec.toNat_ofInt, BitVec.toNat_ofNat]
  omega

/-- Settles O37: the error byte is `ErrByte(rv)`. -/
theorem answerFailResult : Obligations.AnswerFailResult := by
  intro rv s hs hrv
  refine ⟨_, exec_eq_next_of_effect (i := .xfrBlockAnswerFail rv) ?_, read_respondedMsg _ _ _ _ _ _⟩
  change answerFail Config.params rv s = _
  rw [answerFail_eq Config.params_legal, if_neg (Classical.not_not.mpr hs), if_pos hrv, respondedState_eq_answered,
    errByte_eq_ofNat]
  rfl

end Sys2Proof.Machine
end

section
/-! SUPPORT. The response flush (R190 to R192) and what an operation adds to the record of the ports while a chunk is in
flight (R191). -/

namespace Sys2Proof.Machine

open Sys2Proof.Safety (sentBytes)

/-! ### A chunk -/

/-- With a readable chunk and an answer within the port's range, the accepted bytes are counted (R190). -/
theorem flushChunk_write {p : Params} {s : State} {chunk : List Byte} {a : Nat} {rest : List Nat}
    (hs : s.fstate = .flush) (hx : s.txInflight = false) (hread : memRead p .msg s.foff (chunkSize p s) s = .ok chunk)
    (hu : s.usbTx = a :: rest) (ha : a ≤ chunkSize p s) : flushChunk p s = .ok (s.tookUsbTx rest chunk a) := by
  rw [flushChunk_eq, if_pos ⟨hs, hx⟩, hread, hu]
  exact if_neg (Nat.not_lt.mpr ha)

/-- `TX_INFLIGHT` after a write on a free port (R190). -/
theorem txAfterWrite_false (a : Nat) : txAfterWrite a false = decide (0 < a) := by
  by_cases h : 0 < a <;> simp [txAfterWrite, h]

/-- Settles O41: the chunk is within `MSG`, and its accepted bytes are counted. -/
theorem flushChunkResult : Obligations.FlushChunkResult := by
  rintro s k a chunk rest hs hx rfl hcap hread hu ha
  have hchunk : memRead Config.params .msg s.foff (chunkSize Config.params s) s = .ok chunk := memRead_ok hcap hread
  rw [exec_eq_next_of_effect (i := .flushChunk) (flushChunk_write hs hx hchunk hu ha), State.tookUsbTx, hx, hs,
    txAfterWrite_false]

/-! ### The record of the ports -/

/-- A USB write in the record of the ports (R61). -/
def isUsbWrite : PortAct → Bool
  | .usbWrite _ _ => true
  | _ => false

/-- From `s` to `t` the record of the ports grew, if at all, by actions other than a USB write. -/
def NoUsbWriteAdded (s t : State) : Prop :=
  ∃ acts, t.log = s.log ++ acts ∧ ∀ x ∈ acts, isUsbWrite x = false

theorem NoUsbWriteAdded.of_log_eq {s t : State} (h : t.log = s.log) : NoUsbWriteAdded s t :=
  ⟨[], by simp [h], by simp⟩

theorem NoUsbWriteAdded.of_log_append {s t : State} {x : PortAct} (h : t.log = s.log ++ [x])
    (hx : isUsbWrite x = false) : NoUsbWriteAdded s t :=
  ⟨[x], h, by simpa using hx⟩

theorem NoUsbWriteAdded.trans {s t u : State} (h₁ : NoUsbWriteAdded s t) (h₂ : NoUsbWriteAdded t u) :
    NoUsbWriteAdded s u := by
  obtain ⟨xs, hxs, hx⟩ := h₁
  obtain ⟨ys, hys, hy⟩ := h₂
  refine ⟨xs ++ ys, by rw [hys, hxs, List.append_assoc], fun z hz => ?_⟩
  exact (List.mem_append.mp hz).elim (hx z) (hy z)

/-- No byte was sent: the record of what the transport accepted is as before (R58, R61). -/
theorem NoUsbWriteAdded.sentBytes_eq {s t : State} (h : NoUsbWriteAdded s t) : sentBytes t.log = sentBytes s.log := by
  obtain ⟨acts, hlog, hacts⟩ := h
  have hnone : sentBytes acts = [] := List.flatMap_eq_nil_iff.mpr fun x hx => by
    cases x with
    | usbWrite c a => cases hacts _ hx
    | _ => rfl
  rw [hlog, sentBytes, List.flatMap_append]
  exact (congrArg _ hnone).trans (List.append_nil _)

/-- Every USB write in the record stood there before. -/
theorem NoUsbWriteAdded.mem_of_mem {s t : State} (h : NoUsbWriteAdded s t) {c : List Byte} {a : Nat}
    (hm : PortAct.usbWrite c a ∈ t.log) : PortAct.usbWrite c a ∈ s.log := by
  obtain ⟨acts, hlog, hacts⟩ := h
  rw [hlog] at hm
  exact (List.mem_append.mp hm).elim id fun hx => nomatch hacts _ hx

/-- A failed attempt records a delay or the answer to the caller (R118, R126). -/
theorem noUsbWriteAdded_failedState (p : Params) (s : State) : NoUsbWriteAdded s (failedState p s) := by
  unfold failedState
  split
  · exact .of_log_append (State.nextAttempt_log s) rfl
  · exact .of_log_append (State.complete_log _ _) rfl

/-- After a header the answer to the caller is recorded, or nothing (R120, R122, R123). -/
theorem noUsbWriteAdded_afterHeader (p : Params) (s : State) : NoUsbWriteAdded s (afterHeader p s) := by
  unfold afterHeader
  split
  · exact .of_log_append (State.complete_log s _) rfl
  · split
    · exact .of_log_append (State.complete_log s _) rfl
    · exact .of_log_eq (State.enterPhase_log s _)

/-! ### One chunk in flight -/

/-- While a chunk is in flight no operation adds a USB write to the record: the only one that does, FLUSH_CHUNK, is not
enabled (R191). -/
theorem Did.noUsbWriteAdded {i : Instr} {s t : State} (h : Did i s t) (hx : s.txInflight = true) :
    NoUsbWriteAdded s t := by
  cases h with
  | nothing | answer | start | discard | yield | txDone => exact .of_log_eq (by simp)
  | process | reject | wrote | readMore => exact .of_log_append rfl rfl
  | crc a ha =>
    obtain ⟨c, rfl⟩ | ⟨c, rfl⟩ := ha
    · exact .of_log_append rfl rfl
    · exact .of_log_append rfl rfl
  | body r rest =>
    exact .trans (.of_log_append (State.tookI2cRd_log s rest _) rfl) (.of_log_append (State.complete_log _ _) rfl)
  | writeFailed =>
    exact .trans (.of_log_append (State.tookI2cWr_log _ _ _) rfl) (noUsbWriteAdded_failedState _ _)
  | readFailed =>
    exact .trans (.of_log_append (State.tookI2cRd_log _ _ _) rfl) (noUsbWriteAdded_failedState _ _)
  | header => exact .trans (.of_log_append rfl rfl) (noUsbWriteAdded_afterHeader _ _)
  | chunk cs a rest hs hfree => simp [hx] at hfree

/-- While a chunk is in flight only the TX-complete event changes `TX_INFLIGHT` (R191, R213). -/
theorem Did.txInflight_eq_true {i : Instr} {s t : State} (h : Did i s t) (hx : s.txInflight = true)
    (hi : i ≠ .txComplete) : t.txInflight = true := by
  cases h with
  | chunk cs a rest hs hfree => simp [hx] at hfree
  | txDone _ hdone => exact absurd hdone hi
  | _ => simp [hx]

/-- Settles O42: of everything an operation can do, only an accepted chunk adds a USB write, and only the TX-complete
event clears `TX_INFLIGHT`. -/
theorem oneChunkInFlight : Obligations.OneChunkInFlight := by
  intro i s t h hx
  have hlog : NoUsbWriteAdded s t := by
    rcases exec_cases h with hd | ⟨f, rfl⟩
    · exact hd.noUsbWriteAdded hx
    · exact .of_log_eq (State.raise_log s f)
  refine ⟨hlog.sentBytes_eq, fun c a => hlog.mem_of_mem, fun ht => Classical.byContradiction fun hi => ?_⟩
  rcases exec_cases h with hd | ⟨f, rfl⟩
  · simp [hd.txInflight_eq_true hx hi] at ht
  · simp [hx] at ht

end Sys2Proof.Machine
end

section
/-! SUPPORT. The breaches of the port contracts (R206): an answer outside its port's range is raised as a fault before
anything is written. -/

namespace Sys2Proof.Machine

/-- An operation whose effect is a fault answers its own state with the fault raised (R204, R206). -/
theorem exec_eq_raise_of_effect {i : Instr} {s : State} {f : Fault} (h : effect i s = .error f) :
    exec i s = .next (s.raise f) :=
  exec_eq_next.mpr (.inr ⟨f, h, rfl⟩)

/-! ### USB -/

/-- A `UsbRead` answer of length 0 or above the free space of `RXB` is a breach (R206). -/
theorem readMore_breach {p : Params} {s : State} {c : List Byte} {rest : List (List Byte)} (hu : s.usbRx = c :: rest)
    (hc : c.length = 0 ∨ freeSpace p s < c.length) : readMore p s = .error (.portContract .usbRx) := by
  rw [readMore_eq, hu]
  exact if_pos hc

/-- A `UsbWrite` count above the chunk's size is a breach (R206). -/
theorem flushChunk_breach {p : Params} {s : State} {chunk : List Byte} {a : Nat} {rest : List Nat}
    (hs : s.fstate = .flush) (hx : s.txInflight = false) (hread : memRead p .msg s.foff (chunkSize p s) s = .ok chunk)
    (hu : s.usbTx = a :: rest) (ha : chunkSize p s < a) : flushChunk p s = .error (.portContract .usbTx) := by
  rw [flushChunk_eq, if_pos ⟨hs, hx⟩, hread, hu]
  exact if_pos ha

/-- With a chunk in flight the TX-complete event releases the port (R213). -/
theorem txComplete_inflight {s : State} (hx : s.txInflight = true) : txComplete s = .ok s.releaseTx := if_pos hx

/-- With none in flight it is a breach (R213, R206). -/
theorem txComplete_breach {s : State} (hx : s.txInflight = false) : txComplete s = .error (.portContract .usbTx) :=
  if_neg (by simp [hx])

/-! ### I2C -/

section
variable {p : Params} {s : State} {r : List Byte} {rest : List (List Byte)}

/-- In the header phase an answer of more than 4 bytes is a breach (R120, R206). -/
theorem rdhdrAttempt_breach (hp : p.Legal) (hs : s.t1state = .rdhdr) (hu : s.i2cRd = r :: rest) (hr : 4 < r.length) :
    rdhdrAttempt p s = .error (.portContract .i2c) := by
  simp only [rdhdrAttempt_eq hp, if_pos hs, hu]
  split
  · simp at hr
  · exact if_pos hr

/-- In the body phase an answer above `RX_DECL + 2` bytes is a breach, whether or not the body would fit `APDU`
(R124, R206). -/
theorem rdbodyAttempt_breach (hs : s.t1state = .rdbody) (hu : s.i2cRd = r :: rest) (hr : bodySize s < r.length) :
    rdbodyAttempt p s = .error (.portContract .i2c) := by
  simp only [rdbodyAttempt, hs, beq_self_eq_true, whenEnabled_true, hu]
  exact if_pos hr

end

/-! ### The processor -/

/-- Outside PROCESS the row of the answers `rv ≥ 0` is a breach, whatever `rv` is (R179, R206). -/
theorem answerOk_breach {p : Params} {s : State} (rv : Word) (hs : s.fstate ≠ .process) :
    answerOk p rv s = .error (.portContract .process) := if_pos hs

/-- The same of the row of the negative answers (R180, R206). -/
theorem answerFail_breach {p : Params} {s : State} (rv : Word) (hs : s.fstate ≠ .process) :
    answerFail p rv s = .error (.portContract .process) := if_pos hs

/-! ### The statements -/

/-- Settles O48: each answer takes the branch of its operation that raises the breach; a `UsbRead` answer is taken on
both ways on which `Reassemble` reads more. -/
theorem portContractBreaches : Obligations.PortContractBreaches := by
  intro s
  refine ⟨fun c rest hs hcase hu hc => ?_, fun chunk a rest hs hx hu hread ha => ?_, fun r rest hs hu hr => ?_,
    fun r rest hs hu hr => ?_, fun hx => ?_, fun rv hs => ⟨?_, ?_⟩⟩
  · have hread : reassemble Config.params s = readMore Config.params s := by
      rcases hcase with hf | ⟨l0, l1, l2, l3, hl, hlen, hf⟩
      · exact reassemble_short hs hf
      · exact reassemble_incomplete Config.params_legal hs hl hlen hf
    exact exec_eq_raise_of_effect (i := .reassemble) (hread.trans (readMore_breach hu hc))
  · exact exec_eq_raise_of_effect (i := .flushChunk) (flushChunk_breach hs hx hread hu ha)
  · exact exec_eq_raise_of_effect (i := .t1RdhdrAttempt) (rdhdrAttempt_breach Config.params_legal hs hu hr)
  · exact exec_eq_raise_of_effect (i := .t1RdbodyAttempt) (rdbodyAttempt_breach hs hu hr)
  · exact exec_eq_raise_of_effect (i := .txComplete) (txComplete_breach hx)
  · exact exec_eq_raise_of_effect (i := .xfrBlockAnswerOk rv) (answerOk_breach rv hs)
  · exact exec_eq_raise_of_effect (i := .xfrBlockAnswerFail rv) (answerFail_breach rv hs)

/-- Settles O43: `TX_INFLIGHT` decides between the release of the port and the breach. -/
theorem txCompleteResult : Obligations.TxCompleteResult := fun _ =>
  ⟨fun hx => exec_eq_next_of_effect (i := .txComplete) (txComplete_inflight hx),
    fun hx => exec_eq_raise_of_effect (i := .txComplete) (txComplete_breach hx)⟩

end Sys2Proof.Machine
end

section
/-! SUPPORT. The buffers after reset hold no value (R230). -/

namespace Sys2Proof.Machine

/-- Of an empty buffer no byte can be read. -/
@[simp] theorem Memory.readN_nil_succ (a n : Nat) : Memory.readN [] a (n + 1) = none := rfl

/-- After reset every buffer is empty (R230). -/
@[simp] theorem State.buf_reset (b : BufId) : State.reset.buf b = [] := by cases b <;> rfl

/-- After reset a non-empty read within a buffer raises the unwritten-byte fault (R230). -/
theorem memRead_reset {p : Params} {b : BufId} {a n : Nat} (h : a + (n + 1) ≤ capacity p b) :
    memRead p b a (n + 1) State.reset = .error (.unwritten b a (n + 1)) :=
  memRead_eq_error.mpr (.inl ⟨h, by simp, rfl⟩)

/-- Settles O58: the registers by their values in `State.reset`, the buffers because each is empty. -/
theorem resetState : Obligations.ResetState := by
  have hbuffers : ∀ (b : BufId) (a : Nat), (State.reset.buf b).read a = none ∧
      (a < capacity Config.params b → memRead Config.params b a 1 State.reset = .error (.unwritten b a 1)) :=
    fun b a => ⟨by simp, memRead_reset (n := 0)⟩
  exact ⟨rfl, rfl, rfl, rfl, rfl, rfl, rfl, rfl, rfl, rfl, rfl, rfl, rfl, rfl, rfl, rfl, rfl, rfl, hbuffers⟩

end Sys2Proof.Machine
end

section
/-! SUPPORT. Every step keeps the four buffers canonical and within their capacities (R50). -/

namespace Sys2Proof.Machine

open Sys2Proof.Safety (BuffersOk)

/-- The contents of buffer `b` are canonical and hold no byte beyond its capacity (R50). -/
def Memory.Within (m : Memory) (b : BufId) : Prop := m.wf ∧ ∀ c ∈ m, c.1 < capacity Config.params b

/-- A write that ends within the capacity keeps the contents within it. -/
theorem Memory.Within.writeN {m : Memory} {b : BufId} {a : Nat} {bs : List Byte} (h : m.Within b)
    (hc : a + bs.length ≤ capacity Config.params b) : (m.writeN a bs).Within b := by
  refine ⟨Memory.wf_writeN h.1 a bs, fun c hm => ?_⟩
  rcases Memory.mem_writeN hm with ⟨-, hlt⟩ | hm
  · exact Nat.lt_of_lt_of_le hlt hc
  · exact h.2 c hm

theorem buffersOk_iff {s : State} :
    BuffersOk s ↔ s.rxb.Within .rxb ∧ s.msg.Within .msg ∧ s.apdu.Within .apdu ∧ s.txf.Within .txf := by
  refine ⟨fun h => ⟨h .rxb, h .msg, h .apdu, h .txf⟩, fun ⟨hr, hm, ha, ht⟩ b => ?_⟩
  cases b with
  | rxb => exact hr
  | msg => exact hm
  | apdu => exact ha
  | txf => exact ht

/-- The header writer's bytes lie within `MSG` (R172). -/
theorem within_respondedMsg {m : Memory} (h : m.Within .msg) (rtype : Byte) (len : Word) (status error param : Byte) :
    (respondedMsg rtype len status error param m).Within .msg := by
  have hcap := capacity_msg Config.params_legal
  refine Memory.Within.writeN (Memory.Within.writeN (Memory.Within.writeN h ?_) ?_) ?_
  · simp only [List.length_cons, List.length_nil]; omega
  · simp only [le32bytes_length]; omega
  · simp only [List.length_cons, List.length_nil]; omega

/-- A failed attempt writes `APDU` with the generic-error bytes or not at all (R118, R126). -/
theorem failedState_apdu_cases (p : Params) (s : State) :
    (failedState p s).apdu = s.apdu ∨ (failedState p s).apdu = s.apdu.writeN 0 p.genericErr := by
  unfold failedState
  split
  · exact .inl rfl
  · exact .inr rfl

theorem within_failedState {s : State} (h : s.apdu.Within .apdu) :
    (failedState Config.params s).apdu.Within .apdu := by
  have hfits := Config.params_legal.genericErr
  rcases failedState_apdu_cases Config.params s with he | he
  · rwa [he]
  · rw [he]
    exact h.writeN (by simp only [capacity]; omega)

/-- Every operation without a fault keeps the buffers within their capacities (R50). -/
theorem Did.buffersOk {i : Instr} {s t : State} (h : Did i s t) (hs : BuffersOk s) : BuffersOk t := by
  rw [buffersOk_iff] at hs ⊢
  obtain ⟨hrxb, hmsg, hapdu, htxf⟩ := hs
  have hcap := capacity_msg Config.params_legal
  cases h with
  | answer _ _ _ _ _ m _ hm =>
    have hm' : m.Within .msg := by
      rcases hm with rfl | rfl
      · exact hmsg
      · exact hmsg.writeN (by simp only [Config.atrBytes, List.length_cons, List.length_nil]; omega)
    exact ⟨hrxb, within_respondedMsg hm' _ _ _ _ _, hapdu, htxf⟩
  | start pcb o e q data hb hi ho hd =>
    refine ⟨hrxb, hmsg, hapdu, htxf.writeN ?_⟩
    rw [frameBytes_length, Memory.readN_length hd, capacity_txf]
    omega
  | writeFailed => simpa [hrxb, hmsg, htxf] using within_failedState (by simpa using hapdu)
  | readFailed => simpa [hrxb, hmsg, htxf] using within_failedState (by simpa using hapdu)
  | body r rest _ _ hr hc => exact ⟨hrxb, hmsg, hapdu.writeN (by simpa [hr, capacity] using hc), htxf⟩
  | readMore c rest _ _ _ hf => exact ⟨hrxb.writeN hf, hmsg, hapdu, htxf⟩
  | yield bs n _ hf hr _ hn hb =>
    have hl := Memory.readN_length hr
    refine ⟨hrxb.writeN ?_, hmsg.writeN ?_, hapdu, htxf⟩
    · simp only [List.length_drop, capacity]; omega
    · simp only [List.length_take]; omega
  | _ => simpa using ⟨hrxb, hmsg, hapdu, htxf⟩

/-- Every step keeps the buffers within their capacities, whoever moves (R50). -/
theorem step_buffersOk {s t : State} (h : step s = .next t) : BuffersOk s → BuffersOk t :=
  step_relation (R := fun s t => BuffersOk s → BuffersOk t) h
    (turn := fun _ _ _ => id)
    (same := fun _ => id)
    (raise := fun _ _ => id)
    (op := fun _ _ _ _ _ _ hd => hd.buffersOk)
    (processor := fun u off bs _ hfits hs => by
      obtain ⟨hrxb, hmsg, hapdu, htxf⟩ := buffersOk_iff.mp hs
      exact buffersOk_iff.mpr ⟨hrxb, hmsg.writeN (by simp only [capacity, Config.hdr]; omega), hapdu, htxf⟩)
    (caller := fun u off bs _ hfits hs => by
      obtain ⟨hrxb, hmsg, hapdu, htxf⟩ := buffersOk_iff.mp hs
      exact buffersOk_iff.mpr ⟨hrxb, hmsg, hapdu.writeN hfits, htxf⟩)

/-- Settles O55: each of the writes a step can make ends within its buffer. -/
theorem buffersAreKept : Obligations.BuffersAreKept := fun _ _ hs h => step_buffersOk h hs

end Sys2Proof.Machine
end

section
/-! SUPPORT. Every step keeps the block's invariant: its parts are the buffers, what `RXB` holds, the framer's registers
and the T=1′ engine's registers, and an operation writes one or two of these. -/

namespace Sys2Proof.Machine

open Sys2Proof.Safety (BuffersOk Inv isStart)

/-! ### The parts of the invariant -/

/-- R22, R23: the bytes below `FILL` are valid and within `RXB`. -/
def RxbInv (s : State) : Prop :=
  s.fill ≤ Config.params.rxCap ∧ ∀ a < s.fill, (s.rxb.read a).isSome

/-- R24 to R26: outside AWAIT a header stands in `MSG`; in FLUSH a byte of a response that fits `MSG` is left. -/
def FramerInv (s : State) : Prop :=
  (s.fstate ≠ .await → ∀ a < 10, (s.msg.read a).isSome) ∧
  (s.fstate = .flush → 10 ≤ s.rspLen ∧ s.rspLen ≤ 10 + Config.params.msgPayloadCap ∧ s.foff < s.rspLen)

/-- R30 to R33: while a phase runs, the attempt is one of `N_ATTEMPTS` and the frame of an accepted payload stands in
`TXF`. -/
def PhaseInv (s : State) : Prop :=
  1 ≤ s.attempt ∧ s.attempt ≤ Config.params.nAttempts ∧ s.t1outlen.toNat < 4089 ∧
    s.txfLen.toNat = s.t1outlen.toNat + 6 ∧ ∀ a < s.txfLen.toNat, (s.txf.read a).isSome

/-- R30 to R37: the engine's part of the invariant. -/
def EngineInv (s : State) : Prop :=
  (s.t1busy = true ↔ s.t1state ≠ .idle) ∧ (s.t1state ≠ .idle → PhaseInv s) ∧
  s.rxDecl = be16 s.rxHdr.lenHi s.rxHdr.lenLo ∧
  (s.t1state = .rdbody → s.t1explen.toNat ≠ 0 ∧ bodySize s ≤ Config.params.apduCap)

/-- The invariant is the conjunction of its parts. -/
theorem inv_iff {s : State} : Inv s ↔ BuffersOk s ∧ RxbInv s ∧ FramerInv s ∧ EngineInv s := by
  constructor
  · intro h
    exact ⟨h.buffers, ⟨h.fill_le, h.rxb_valid⟩,
      ⟨h.msg_header, fun hs => ⟨(h.rspLen_range hs).1, (h.rspLen_range hs).2, h.foff_lt hs⟩⟩,
      h.busy_iff, fun hs => ⟨(h.attempt_range hs).1, (h.attempt_range hs).2, (h.frame_len hs).1, (h.frame_len hs).2,
        h.frame_valid hs⟩, h.rxDecl_eq, h.body_fits⟩
  · rintro ⟨hbuf, ⟨hfill, hvalid⟩, ⟨hheader, hflush⟩, hbusy, hphase, hdecl, hbody⟩
    exact {
      buffers := hbuf
      fill_le := hfill
      rxb_valid := hvalid
      msg_header := hheader
      rspLen_range := fun hs => let ⟨h10, hcap, _⟩ := hflush hs; ⟨h10, hcap⟩
      foff_lt := fun hs => let ⟨_, _, hlt⟩ := hflush hs; hlt
      busy_iff := hbusy
      attempt_range := fun hs => let ⟨hone, hmax, _⟩ := hphase hs; ⟨hone, hmax⟩
      frame_len := fun hs => let ⟨_, _, ho, hlen, _⟩ := hphase hs; ⟨ho, hlen⟩
      frame_valid := fun hs => let ⟨_, _, _, _, hframe⟩ := hphase hs; hframe
      rxDecl_eq := hdecl
      body_fits := hbody }

/-! ### Valid bytes -/

/-- A write leaves every valid byte valid. -/
theorem Memory.isSome_read_writeN {m : Memory} {a : Nat} (h : (m.read a).isSome) (base : Nat) (bs : List Byte) :
    ((m.writeN base bs).read a).isSome := by
  simp [Memory.read_writeN, Option.isSome_or, h]

/-- Written bytes are valid. -/
theorem Memory.isSome_read_written (m : Memory) {base a : Nat} {bs : List Byte} (h1 : base ≤ a)
    (h2 : a < base + bs.length) : ((m.writeN base bs).read a).isSome := by
  have hlt : a - base < bs.length := by omega
  simp [Memory.read_writeN, Safety.bytesAt, h1, hlt]

/-- A header that was valid stays valid under the header writer (R172). -/
theorem isSome_read_respondedMsg {m : Memory} {a : Nat} (h : (m.read a).isSome) (rtype : Byte) (len : Word)
    (status error param : Byte) : ((respondedMsg rtype len status error param m).read a).isSome :=
  Memory.isSome_read_writeN (Memory.isSome_read_writeN (Memory.isSome_read_writeN h _ _) _ _) _ _

/-! ### `RXB` -/

/-- Every operation without a fault keeps what `RXB` holds (R22, R23). -/
theorem Did.rxbInv {i : Instr} {s t : State} (h : Did i s t) (hs : RxbInv s) : RxbInv t := by
  obtain ⟨hfill, hvalid⟩ := hs
  cases h with
  | readMore c rest _ _ _ hf =>
    refine ⟨hf, fun a ha => ?_⟩
    by_cases hold : a < s.fill
    · exact Memory.isSome_read_writeN (hvalid a hold) _ _
    · exact Memory.isSome_read_written _ (Nat.not_lt.mp hold) ha
  | discard => exact ⟨Nat.zero_le _, fun a ha => absurd ha (Nat.not_lt_zero a)⟩
  | yield bs n _ _ hr _ _ hb =>
    have hkeep : s.fill - (bs.take n).length = (bs.drop n).length := by
      simp only [List.length_take, List.length_drop, Memory.readN_length hr]; omega
    refine ⟨Nat.le_trans (Nat.sub_le _ _) hfill, fun a ha => Memory.isSome_read_written _ (Nat.zero_le a) ?_⟩
    have ha' : a < s.fill - (bs.take n).length := ha
    omega
  | _ => simpa [RxbInv] using ⟨hfill, hvalid⟩

/-! ### The framer -/

/-- A written response that fits `MSG` begins a flush (R172). -/
theorem framerInv_respondedState {s : State} {rtype : Byte} {len : Word} {status error param : Byte} {m : Memory}
    (hheader : ∀ a < 10, (m.read a).isSome) (hlen : len.toNat ≤ Config.params.msgPayloadCap) :
    FramerInv (respondedState rtype len status error param { s with msg := m }) := by
  refine ⟨fun _ a ha => isSome_read_respondedMsg (hheader a ha) _ _ _ _ _, fun _ => ?_⟩
  simp only [respondedState, Config.hdr]
  omega

/-- Every well-formed operation without a fault keeps the framer's part of the invariant (R24 to R26). -/
theorem Did.framerInv {i : Instr} {s t : State} (h : Did i s t)
    (hw : isStart i = false → i.wf Config.params = true) (hs : FramerInv s) : FramerInv t := by
  obtain ⟨hheader, hflush⟩ := hs
  cases h with
  | answer _ _ _ _ _ m hfs hm hl hi =>
    have hstands : ∀ a < 10, (s.msg.read a).isSome := hheader (by
      rcases hfs with ⟨hb, -⟩ | ⟨hp, -⟩
      · simp [hb]
      · simp [hp])
    refine framerInv_respondedState (fun a ha => ?_) (hl (hw hi))
    rcases hm with rfl | rfl
    · exact hstands a ha
    · exact Memory.isSome_read_writeN (hstands a ha) _ _
  | process len hb => exact ⟨fun _ => hheader (by simp [hb]), fun hf => by cases hf⟩
  | yield bs n _ _ hr h10 _ hb =>
    refine ⟨fun _ a ha => Memory.isSome_read_written _ (Nat.zero_le a) ?_, fun hf => by cases hf⟩
    simp only [List.length_take, Memory.readN_length hr]
    omega
  | chunk cs a rest hfs _ _ ha =>
    obtain ⟨h10, hcap, hlt⟩ := hflush hfs
    simp only [chunkSize] at ha
    refine ⟨fun _ => hheader (by simp [hfs]), fun hf => ⟨h10, hcap, ?_⟩⟩
    simp only [State.tookUsbTx_fstate, hfs] at hf
    split at hf
    · cases hf
    · simp only [State.tookUsbTx_foff, State.tookUsbTx_rspLen]; omega
  | _ => simpa [FramerInv] using ⟨hheader, hflush⟩

/-! ### The engine -/

section
variable {s : State}

theorem EngineInv.rxDecl_eq (h : EngineInv s) : s.rxDecl = be16 s.rxHdr.lenHi s.rxHdr.lenLo := by
  obtain ⟨-, -, hdecl, -⟩ := h
  exact hdecl

/-- The end of a transaction leaves nothing of the phases to hold (R128). -/
theorem engineInv_complete (hdecl : s.rxDecl = be16 s.rxHdr.lenHi s.rxHdr.lenLo) (v : Word) :
    EngineInv (s.complete v) := by
  simpa [EngineInv] using hdecl

/-- The first attempt of a later phase (R118). -/
theorem EngineInv.enterPhase (h : EngineInv s) (hs : s.t1state ≠ .idle) {ph : T1State} (hph : ph ≠ .idle)
    (hbody : ph = .rdbody → s.t1explen.toNat ≠ 0 ∧ bodySize s ≤ Config.params.apduCap) :
    EngineInv (s.enterPhase ph) := by
  obtain ⟨hbusy, hphase, hdecl, -⟩ := h
  obtain ⟨-, -, hframe⟩ := hphase hs
  refine ⟨?_, fun _ => ⟨Nat.le_refl 1, Config.params_legal.nAttempts, hframe⟩, hdecl, hbody⟩
  simpa [hph] using hbusy.mpr hs

/-- A failed attempt (R118, R126). -/
theorem EngineInv.failedState (h : EngineInv s) (hs : s.t1state ≠ .idle) :
    EngineInv (failedState Config.params s) := by
  obtain ⟨hbusy, hphase, hdecl, hbody⟩ := h
  obtain ⟨-, -, hframe⟩ := hphase hs
  unfold Machine.failedState
  split
  · exact ⟨hbusy, fun _ => ⟨Nat.le_add_left 1 s.attempt, ‹_›, hframe⟩, hdecl, hbody⟩
  · exact engineInv_complete (s := { s with apdu := _ }) hdecl 0

/-- A whole header, in the header phase (R121). -/
theorem EngineInv.setHeader (h : EngineInv s) (hs : s.t1state = .rdhdr) (hdr : RxHdr) :
    EngineInv (s.setHeader hdr) := by
  obtain ⟨hbusy, hphase, -, -⟩ := h
  exact ⟨hbusy, hphase, rfl, fun hb => by simp [hs] at hb⟩

/-- What follows a whole header (R120, R122, R123). -/
theorem EngineInv.afterHeader (h : EngineInv s) (hs : s.t1state ≠ .idle) :
    EngineInv (afterHeader Config.params s) := by
  have hdecl := h.rxDecl_eq
  unfold Machine.afterHeader
  split
  · exact engineInv_complete hdecl 0
  · split
    · exact engineInv_complete hdecl _
    · exact h.enterPhase hs (by simp) fun _ => ⟨‹_›, Nat.not_lt.mp ‹_›⟩

/-- An accepted start: the frame of its payload stands in `TXF` (R112, R114). -/
theorem EngineInv.startedState (h : EngineInv s) {pcb : Byte} {o e : Half} {data : List Byte} (ho : o.toNat < 4089)
    (hd : data.length = o.toNat) : EngineInv (startedState Config.params pcb o e data s) := by
  have hlen : (BitVec.ofNat 16 (o.toNat + 6)).toNat = o.toNat + 6 := by rw [BitVec.toNat_ofNat]; omega
  refine ⟨by simp [Machine.startedState],
    fun _ => ⟨Nat.le_refl 1, Config.params_legal.nAttempts, ho, hlen, fun a ha => ?_⟩, h.rxDecl_eq, nofun⟩
  refine Memory.isSome_read_written _ (Nat.zero_le a) ?_
  have ha' : a < (BitVec.ofNat 16 (o.toNat + 6)).toNat := ha
  rw [frameBytes_length]
  omega

end

/-- Every operation without a fault keeps the engine's part of the invariant (R30 to R37). -/
theorem Did.engineInv {i : Instr} {s t : State} (h : Did i s t) (hs : EngineInv s) : EngineInv t := by
  have hdecl := hs.rxDecl_eq
  cases h with
  | reject pcb o e q =>
    exact engineInv_complete (s := State.takeRequest Config.params { s with seq := q } pcb o e) hdecl _
  | start pcb o e q data _ _ ho hd =>
    exact EngineInv.startedState (s := { s with seq := q }) hs ho (Memory.readN_length hd)
  | wrote f rest hph => exact EngineInv.enterPhase (s := s.tookI2cWr _ _) hs (by simp [hph]) (by simp) (by simp)
  | writeFailed f st rest hph => exact EngineInv.failedState (s := s.tookI2cWr _ _) hs (by simp [hph])
  | header nad pcb hi lo rest hph =>
    exact (EngineInv.setHeader (s := s.tookI2cRd _ _) hs hph _).afterHeader (by simp [hph])
  | readFailed n r rest hph =>
    exact EngineInv.failedState (s := s.tookI2cRd _ _) hs (by
      rcases hph with hph | hph
      · simp [hph]
      · simp [hph])
  | body r rest => exact engineInv_complete (s := { s.tookI2cRd _ _ with apdu := _ }) hdecl _
  | _ => simpa [EngineInv, PhaseInv, bodySize] using hs

/-! ### The whole invariant -/

/-- An operation without a fault keeps the invariant, where its row admits its fields or it is a start. -/
theorem Did.inv {i : Instr} {s t : State} (h : Did i s t) (hw : isStart i = false → i.wf Config.params = true)
    (hs : Inv s) : Inv t := by
  obtain ⟨hbuf, hrxb, hframer, hengine⟩ := inv_iff.mp hs
  exact inv_iff.mpr ⟨h.buffersOk hbuf, h.rxbInv hrxb, h.framerInv hw hframer, h.engineInv hengine⟩

/-- The invariant does not speak of the schedule and the count of free choices. -/
theorem inv_turn {s : State} (ts : List Turn) (n : Nat) : Inv { s with sched := ts, choices := n } ↔ Inv s := by
  rw [inv_iff, inv_iff]
  exact Iff.rfl

/-- The invariant does not speak of the fault record. -/
theorem inv_raise {s : State} (f : Fault) : Inv (s.raise f) ↔ Inv s := by
  rw [inv_iff, inv_iff]
  exact Iff.rfl

/-- Every step keeps the invariant, whoever moves. -/
theorem step_inv {s t : State} (h : step s = .next t) (hs : Inv s) : Inv t := by
  refine step_relation (R := fun s t => BuffersOk t → Inv s → Inv t) h
    (turn := fun ts n t ht hbuf hs => ht hbuf ((inv_turn ts n).mpr hs))
    (same := fun _ _ => id)
    (raise := fun _ f _ => (inv_raise f).mpr)
    (op := fun _ _ _ hw _ _ hd _ => hd.inv fun _ => hw)
    (processor := fun u off bs _ _ hbuf hs => ?_)
    (caller := fun u off bs _ _ hbuf hs => ?_) (step_buffersOk h hs.buffers) hs
  · obtain ⟨-, hrxb, ⟨hheader, hflush⟩, hengine⟩ := inv_iff.mp hs
    exact inv_iff.mpr ⟨hbuf, hrxb, ⟨fun hf a ha => Memory.isSome_read_writeN (hheader hf a ha) _ _, hflush⟩, hengine⟩
  · obtain ⟨-, hrest⟩ := inv_iff.mp hs
    exact inv_iff.mpr ⟨hbuf, hrest⟩

/-- Settles O53: every part of the invariant is kept by everything a step can be. -/
theorem invIsKept : Obligations.InvIsKept := fun _ _ hs h => step_inv h hs

/-- Settles O54: after reset every buffer is empty, the framer is in AWAIT and the engine in IDLE. -/
theorem invAtReset : Obligations.InvAtReset := by
  have hempty : ∀ b, Memory.Within [] b := fun _ => ⟨List.Pairwise.nil, fun _ hc => nomatch hc⟩
  refine inv_iff.mpr ⟨buffersOk_iff.mpr ⟨hempty _, hempty _, hempty _, hempty _⟩, ⟨Nat.zero_le _, nofun⟩, ?_, ?_⟩
  · simp [FramerInv, State.reset]
  · simp [EngineInv, State.reset]
    rfl

end Sys2Proof.Machine
end

section
/-! SUPPORT. Faults: what an operation can raise from a state with the invariant, said once (R204 to R209, R230), and
that a fault leaves everything else as it was. -/

namespace Sys2Proof.Machine

open Sys2Proof.Safety (Inv isStart isProcessorAnswer)

/-- Everything the operation `i` can raise from a state with the invariant. -/
inductive Raises (i : Instr) : Fault → Prop
  /-- A `UsbRead` answer out of range (R206). -/
  | usbRx (hi : i = .reassemble) : Raises i (.portContract .usbRx)
  /-- A `UsbWrite` count out of range, or a TX-complete event without a chunk in flight (R206). -/
  | usbTx (hi : i = .flushChunk ∨ i = .txComplete) : Raises i (.portContract .usbTx)
  /-- An `I2cRead` answer out of range (R206). -/
  | i2c (hi : i = .t1RdhdrAttempt ∨ i = .t1RdbodyAttempt) : Raises i (.portContract .i2c)
  /-- A processor's answer outside PROCESS (R206). -/
  | process (hi : isProcessorAnswer i = true) : Raises i (.portContract .process)
  /-- A processor's answer above `MSG_PAYLOAD_CAP` (R205). -/
  | procOverrun (rv : Word) (hi : isProcessorAnswer i = true) : Raises i (.procOverrun rv)
  /-- A start while a transaction runs (R207). -/
  | t1Overlap (hi : isStart i = true) : Raises i .t1Overlap
  /-- A start whose payload nobody wrote (R230). -/
  | payload (n : Nat) (hi : isStart i = true) : Raises i (.unwritten .apdu 0 n)
  /-- A flush over bytes nobody wrote (R230). -/
  | chunk (a n : Nat) (hi : i = .flushChunk) : Raises i (.unwritten .msg a n)

section
variable {i : Instr} {s : State} {f : Fault}

/-! ### The framer -/

theorem raises_readMore (h : readMore Config.params s = .error f) : Raises .reassemble f := by
  rw [readMore_eq] at h
  split at h
  · cases h
  · split at h
    · cases h
      exact .usbRx rfl
    · cases h

/-- In a state with the invariant the buffered bytes can be read. -/
theorem exists_buffered (hs : Inv s) : ∃ bs, s.rxb.readN 0 s.fill = some bs :=
  Memory.exists_readN fun k hk => by simpa using hs.rxb_valid k hk

/-- In a state with the invariant the length field of a buffered header can be read. -/
theorem exists_lengthField (hs : Inv s) (h10 : 10 ≤ s.fill) :
    ∃ l0 l1 l2 l3, s.rxb.readN 1 4 = some [l0, l1, l2, l3] := by
  obtain ⟨bs, hbs⟩ := Memory.exists_readN (m := s.rxb) (a := 1) (n := 4) fun k hk => hs.rxb_valid (1 + k) (by omega)
  match bs, Memory.readN_length hbs with
  | [l0, l1, l2, l3], _ => exact ⟨l0, l1, l2, l3, hbs⟩

theorem raises_reassemble (hs : Inv s) (h : reassemble Config.params s = .error f) : Raises .reassemble f := by
  have hawait : s.fstate = .await := by simpa using (whenEnabled_eq_error.mp h).1
  by_cases h10 : 10 ≤ s.fill
  · obtain ⟨l0, l1, l2, l3, hl⟩ := exists_lengthField hs h10
    obtain ⟨bs, hbs⟩ := exists_buffered hs
    rw [reassemble_header Config.params_legal hawait h10 hl] at h
    split at h
    · cases h
    · split at h
      · rw [yieldMessage_eq Config.params_legal hbs hs.fill_le ‹_› (by omega)] at h
        cases h
      · exact raises_readMore h
  · rw [reassemble_short hawait (Nat.not_le.mp h10)] at h
    exact raises_readMore h

/-- Outside BUILD no row of the dispatch table is enabled (R171, R216). -/
theorem runCommand_disabled (p : Params) (k : CommandKind) (hb : s.fstate ≠ .build) : runCommand p k s = .ok s := by
  have hdisabled : (s.fstate == FState.build) = false := by simpa using hb
  cases k <;> simp [runCommand, powerOn, powerOff, getSlotStatus, xfrBlockStart, getParameters, resetParameters,
    setParameters, unknownCommand, hdisabled]

/-- In a state with the invariant every row of the dispatch table completes (R173). -/
theorem runCommand_ne_error (hs : Inv s) (k : CommandKind) : runCommand Config.params k s ≠ .error f := by
  intro h
  by_cases hb : s.fstate = .build
  · obtain ⟨len, hlen⟩ := exists_msgLength Config.params_legal (s := s) (hs.msg_header (by simp [hb]))
    obtain ⟨u, hu, -⟩ := runCommand_completes Config.params_legal k hb hlen
    cases hu.symm.trans h
  · cases (runCommand_disabled Config.params k hb).symm.trans h

theorem dispatch_ne_error (hs : Inv s) : dispatch Config.params s ≠ .error f := by
  intro h
  obtain ⟨hb, -⟩ := whenEnabled_eq_error.mp h
  have hbuild : s.fstate = .build := by simpa using hb
  obtain ⟨t, ht⟩ := Option.isSome_iff_exists.mp (hs.msg_header (by simp [hbuild]) 0 (by decide))
  rw [dispatch_build Config.params_legal hbuild ht] at h
  exact runCommand_ne_error hs _ h

theorem raises_flushChunk (hs : Inv s) (h : flushChunk Config.params s = .error f) : Raises .flushChunk f := by
  rw [flushChunk_eq] at h
  split at h
  · rename_i hfl
    obtain ⟨-, hcap⟩ := hs.rspLen_range hfl.1
    have hlt := hs.foff_lt hfl.1
    split at h
    · rename_i hr
      cases h
      rcases memRead_eq_error.mp hr with ⟨-, -, rfl⟩ | ⟨hover, -⟩
      · exact .chunk _ _ rfl
      · simp only [capacity, chunkSize] at hover
        omega
    · split at h
      · cases h
      · split at h
        · cases h
          exact .usbTx (.inl rfl)
        · cases h
  · cases h

/-! ### The processor -/

theorem raises_answerOk {rv : Word} (h : answerOk Config.params rv s = .error f) :
    Raises (.xfrBlockAnswerOk rv) f := by
  rw [answerOk_eq Config.params_legal] at h
  split at h
  · cases h
    exact .process rfl
  · split at h
    · cases h
    · split at h
      · cases h
        exact .procOverrun rv rfl
      · cases h

theorem raises_answerFail {rv : Word} (h : answerFail Config.params rv s = .error f) :
    Raises (.xfrBlockAnswerFail rv) f := by
  rw [answerFail_eq Config.params_legal] at h
  split at h
  · cases h
    exact .process rfl
  · split at h
    · cases h
    · cases h

/-! ### The engine -/

theorem raises_startTransaction {pcb : Byte} {o e : Half} (hi : isStart i = true)
    (h : startTransaction Config.params pcb o e s = .error f) : Raises i f := by
  rw [startTransaction_eq Config.params_legal] at h
  split at h
  · cases h
  · split at h
    · cases h
    · cases h
      exact .payload _ hi

theorem raises_transact {pcb : Byte} {o e : Half} (hi : isStart i = true)
    (h : transact Config.params pcb o e s = .error f) : Raises i f := by
  unfold transact at h
  split at h
  · cases h
    exact .t1Overlap hi
  · exact raises_startTransaction hi h

theorem raises_startIBlock {pcb : Byte} {o e : Half} (hi : isStart i = true)
    (h : startIBlock Config.params pcb o e s = .error f) : Raises i f := by
  unfold startIBlock at h
  split at h
  · cases h
    exact .t1Overlap hi
  · exact raises_startTransaction hi h

/-- In a state with the invariant the frame stands in `TXF` while a phase runs (R33, R114). -/
theorem exists_frame (hs : Inv s) (hph : s.t1state ≠ .idle) :
    ∃ bs, memRead Config.params .txf 0 s.txfLen.toNat s = .ok bs := by
  obtain ⟨ho, hlen⟩ := hs.frame_len hph
  obtain ⟨bs, hbs⟩ := Memory.exists_readN (m := s.txf) (a := 0) (n := s.txfLen.toNat)
    fun k hk => by simpa using hs.frame_valid hph k hk
  simp only [Config.t1MaxOut] at ho
  exact ⟨bs, memRead_ok (by rw [capacity_txf]; omega) hbs⟩

theorem writeAttempt_ne_error (hs : Inv s) : writeAttempt Config.params s ≠ .error f := by
  intro h
  have hph : s.t1state = .write := by simpa using (whenEnabled_eq_error.mp h).1
  obtain ⟨bs, hbs⟩ := exists_frame hs (by simp [hph])
  simp only [writeAttempt_eq Config.params_legal, if_pos hph, hbs] at h
  split at h
  · cases h
  · split at h <;> cases h

theorem raises_rdhdrAttempt (h : rdhdrAttempt Config.params s = .error f) : Raises .t1RdhdrAttempt f := by
  rw [rdhdrAttempt_eq Config.params_legal] at h
  split at h
  · split at h
    · cases h
    · split at h
      · cases h
      · split at h
        · cases h
          exact .i2c (.inl rfl)
        · cases h
  · cases h

theorem raises_rdbodyAttempt (hs : Inv s) (h : rdbodyAttempt Config.params s = .error f) :
    Raises .t1RdbodyAttempt f := by
  rw [rdbodyAttempt_eq Config.params_legal fun hph => (hs.body_fits hph).2] at h
  split at h
  · split at h
    · cases h
    · split at h
      · cases h
        exact .i2c (.inr rfl)
      · split at h <;> cases h
  · cases h

theorem raises_txComplete (h : txComplete s = .error f) : Raises .txComplete f := by
  unfold txComplete at h
  split at h
  · cases h
  · cases h
    exact .usbTx (.inr rfl)

/-! ### Every operation -/

/-- What an operation raises from a state with the invariant is one of the cases of `Raises`. -/
theorem effect_raises (hs : Inv s) (h : effect i s = .error f) : Raises i f := by
  cases i with
  | powerOn => exact absurd h (runCommand_ne_error hs .powerOn)
  | powerOff => exact absurd h (runCommand_ne_error hs .powerOff)
  | getSlotStatus => exact absurd h (runCommand_ne_error hs .getSlotStatus)
  | xfrBlock => exact absurd h (runCommand_ne_error hs .xfrBlock)
  | getParameters => exact absurd h (runCommand_ne_error hs .getParameters)
  | resetParameters => exact absurd h (runCommand_ne_error hs .resetParameters)
  | setParameters => exact absurd h (runCommand_ne_error hs .setParameters)
  | unknown => exact absurd h (runCommand_ne_error hs .unknown)
  | rspDataBlock | rspSlotStatus | rspParameters => cases (respondRow_eq Config.params_legal _ _ s).symm.trans h
  | iBlockNs0 | iBlockNs1 => exact raises_startIBlock rfl (whenEnabled_eq_error.mp h).2
  | ctrlReset | anyPcb | t1Transact => exact raises_transact rfl h
  | t1TransactApdu => exact raises_startIBlock rfl h
  | crc16 | frameCrc => cases h
  | reassemble => exact raises_reassemble hs h
  | dispatch => exact absurd h (dispatch_ne_error hs)
  | xfrBlockAnswerOk => exact raises_answerOk h
  | xfrBlockAnswerFail => exact raises_answerFail h
  | flushChunk => exact raises_flushChunk hs h
  | t1WriteAttempt => exact absurd h (writeAttempt_ne_error hs)
  | t1RdhdrAttempt => exact raises_rdhdrAttempt h
  | t1RdbodyAttempt => exact raises_rdbodyAttempt hs h
  | txComplete => exact raises_txComplete h

/-- After an operation on a state with the invariant and no fault, the fault record is empty or holds one of the cases
of `Raises`. -/
theorem exec_fault_cases {t : State} (hs : Inv s) (hf : s.fault = none) (h : exec i s = .next t) :
    t.fault = none ∨ ∃ f, t.fault = some f ∧ Raises i f := by
  rcases exec_eq_next.mp h with hok | ⟨f, herr, rfl⟩
  · exact .inl ((effect_did hok).fault_eq.trans hf)
  · exact .inr ⟨f, by simp [hf], effect_raises hs herr⟩

end

/-- Settles O56: `BufferBounds` is none of the faults an operation can raise from a state with the invariant. -/
theorem noBufferBounds : Obligations.NoBufferBounds := by
  intro i s t hs hf h b a n hbounds
  rcases exec_fault_cases hs hf h with hnone | ⟨f, hsome, hraises⟩
  · cases hnone.symm.trans hbounds
  · obtain rfl : f = .bufferBounds b a n := Option.some.inj (hsome.symm.trans hbounds)
    cases hraises

/-- The engine's step is an attempt of the running phase (R111). -/
theorem engineOp_eq_some {i : Instr} {s : State} (h : engineOp s = some i) :
    (i = .t1WriteAttempt ∧ s.t1state = .write) ∨ (i = .t1RdhdrAttempt ∧ s.t1state = .rdhdr) ∨
      (i = .t1RdbodyAttempt ∧ s.t1state = .rdbody) := by
  unfold engineOp at h
  split at h <;> cases h
  · exact .inl ⟨rfl, ‹_›⟩
  · exact .inr (.inl ⟨rfl, ‹_›⟩)
  · exact .inr (.inr ⟨rfl, ‹_›⟩)

/-- The framer's step follows `FSTATE` (R150, R171, R190). -/
theorem framerOp_eq_some {i : Instr} {s : State} (h : framerOp s = some i) :
    (i = .reassemble ∧ s.fstate = .await) ∨ (i = .dispatch ∧ s.fstate = .build) ∨
      (i = .flushChunk ∧ s.fstate = .flush) := by
  unfold framerOp at h
  split at h <;> cases h
  · exact .inl ⟨rfl, ‹_›⟩
  · exact .inr (.inl ⟨rfl, ‹_›⟩)
  · exact .inr (.inr ⟨rfl, ‹_›⟩)

/-- Settles O57: an attempt, REASSEMBLE and DISPATCH are no start, no answer and no flush, so only the port contracts
are left of what an operation can raise. -/
theorem ownStepsReadWrittenBytes : Obligations.OwnStepsReadWrittenBytes := by
  intro i s t hs hf hown h
  have hi : isStart i = false ∧ isProcessorAnswer i = false ∧ i ≠ .flushChunk := by
    rcases hown with he | ⟨hne, hfr⟩
    · rcases engineOp_eq_some he with ⟨rfl, -⟩ | ⟨rfl, -⟩ | ⟨rfl, -⟩ <;> exact ⟨rfl, rfl, nofun⟩
    · rcases framerOp_eq_some hfr with ⟨rfl, -⟩ | ⟨rfl, -⟩ | ⟨-, hfl⟩
      · exact ⟨rfl, rfl, nofun⟩
      · exact ⟨rfl, rfl, nofun⟩
      · exact absurd hfl hne
  obtain ⟨hstart, hanswer, hflush⟩ := hi
  refine (exec_fault_cases hs hf h).imp id ?_
  rintro ⟨f, hsome, hraises⟩
  cases hraises with
  | usbRx => exact ⟨_, hsome⟩
  | usbTx => exact ⟨_, hsome⟩
  | i2c => exact ⟨_, hsome⟩
  | process => exact ⟨_, hsome⟩
  | procOverrun _ hi => simp [hanswer] at hi
  | t1Overlap hi => simp [hstart] at hi
  | payload _ hi => simp [hstart] at hi
  | chunk _ _ hi => exact absurd hi hflush

/-- Settles O8: an operation without a fault leaves the record as it was, and raising writes the record only. -/
theorem faultsChangeNothingElse : Obligations.FaultsChangeNothingElse := by
  intro i s t hf h hne
  rcases exec_cases h with hd | ⟨f, rfl⟩
  · exact absurd (hd.fault_eq.trans hf) hne
  · rfl

end Sys2Proof.Machine
end

section
/-! SUPPORT. Decoding (30_encoding.md): the identity on encodings, what is accepted, and each refusal by its name. -/

namespace Sys2Proof

/-! ### Messages -/

/-- A message that stands alone decodes to its type's operation (R74, R80). -/
theorem decode_encodeMessage (p : Params) (t : Byte) {m : CcidCommand} (h : m.wf = true) :
    decode p (.message (encodeMessage t m)) = .ok (commandOf t m) := by
  have hd := decodeMessage_encodeMessage t h []
  rw [List.append_nil] at hd
  simp only [decode, hd]

/-- A type byte that is no command code is UNKNOWN (R80). -/
theorem commandOf_unknown {t : Byte} (h : isCommandType t = false) (m : CcidCommand) :
    commandOf t m = .unknown t m := by
  rw [commandOf, commandKind_unknown.mpr h]

/-! ### Response headers and PCB bytes -/

/-- A response header with one of the three response codes decodes to its row (R79). -/
theorem decodeResponse_encodeResponse (r : CcidResponse) :
    decodeResponse (encodeResponse Config.rspDataBlock r) = .ok (.rspDataBlock r) ∧
    decodeResponse (encodeResponse Config.rspSlotStatus r) = .ok (.rspSlotStatus r) ∧
    decodeResponse (encodeResponse Config.rspParameters r) = .ok (.rspParameters r) := by
  simp only [encodeResponse, le32bytes, List.cons_append, List.nil_append, decodeResponse, le32_le32bytes]
  exact ⟨rfl, rfl, rfl⟩

/-- `PCB_RESET` is neither I-block's PCB (R10), so it decodes to its own row (R82, R83). -/
theorem decodePcb_pcbReset {p : Params} (hp : p.Legal) (o e : Half) :
    decodePcb p p.pcbReset o e = .ctrlReset o e := by
  have hns1 : p.pcbReset ≠ Config.seqMask := hp.pcbReset_ne_ns1
  rw [decodePcb, if_neg hp.pcbReset_ne_ns0, if_neg hns1, if_pos rfl]

/-- Any PCB but these three decodes to the row of the others (R83). -/
theorem decodePcb_any {p : Params} {pcb : Byte} {o e : Half} (h : (Instr.anyPcb pcb o e).wf p = true) :
    decodePcb p pcb o e = .anyPcb pcb o e := by
  simp only [Instr.wf, Bool.and_eq_true, bne_iff_ne] at h
  obtain ⟨⟨hns0, hns1⟩, hreset⟩ := h
  rw [decodePcb, if_neg hns0, if_neg hns1, if_neg hreset]

/-- Settles O1: by the space its row lies in, an operation is a message, a response header or a PCB byte. -/
theorem decodeEncodeRoundTrip : Obligations.DecodeEncodeRoundTrip := by
  intro p i c hp hw hc
  cases i with
  | powerOn m | powerOff m | getSlotStatus m | xfrBlock m | getParameters m | resetParameters m | setParameters m =>
    cases hc
    exact decode_encodeMessage p _ hw
  | unknown t m =>
    cases hc
    obtain ⟨ht, hm⟩ : isCommandType t = false ∧ m.wf = true := by simpa [Instr.wf] using hw
    rw [decode_encodeMessage p t hm, commandOf_unknown ht]
  | rspDataBlock r =>
    cases hc
    exact (decodeResponse_encodeResponse r).1
  | rspSlotStatus r =>
    cases hc
    exact (decodeResponse_encodeResponse r).2.1
  | rspParameters r =>
    cases hc
    exact (decodeResponse_encodeResponse r).2.2
  | iBlockNs0 o e | iBlockNs1 o e =>
    cases hc
    rfl
  | ctrlReset o e =>
    cases hc
    exact congrArg Except.ok (decodePcb_pcbReset hp o e)
  | anyPcb pcb o e =>
    cases hc
    exact congrArg Except.ok (decodePcb_any hw)
  | _ => cases hc

/-! ### Refusals -/

/-- Fewer bytes than a header are no message (R70). -/
theorem decodeMessage_short {bs : List Byte} (h : bs.length < 10) : decodeMessage bs = .error .shortHeader := by
  unfold decodeMessage
  split
  · simp only [List.length_cons] at h
    omega
  · rfl

/-- Fewer bytes than a header are no response header (R71). -/
theorem decodeResponse_short {bs : List Byte} (h : bs.length < 10) : decodeResponse bs = .error .shortHeader := by
  unfold decodeResponse
  split
  · simp at h
  · simp only [List.length_cons] at h
    omega
  · rfl

/-- Settles O3: a message is accepted as its type's operation; each refusal is one branch of the decoder. -/
theorem decodingAcceptsAndRefuses : Obligations.DecodingAcceptsAndRefuses := by
  refine ⟨fun t m rest hm => ?_, fun p bs h => ?_, fun p t l0 l1 l2 l3 slot seq b7 b8 b9 rest => ?_⟩
  · rw [← Machine.commandOf_eq_ite]
    exact decodeMessage_encodeMessage t (decide_eq_true hm) rest
  · exact ⟨by rw [decode, decodeMessage_short h], decodeResponse_short h⟩
  · refine ⟨fun hlong => ?_, fun hfits hcut => ?_, fun hfits hmore => ?_, fun h80 h81 h82 => ?_, fun hne => ?_⟩
    · have hmax : (le32 l0 l1 l2 l3).toNat > Config.maxMsg := hlong
      simp [decode, decodeMessage, hmax]
    · have hmax : ¬ (le32 l0 l1 l2 l3).toNat > Config.maxMsg := Nat.not_lt.mpr hfits
      simp [decode, decodeMessage, hmax, hcut]
    · have hmax : ¬ (le32 l0 l1 l2 l3).toNat > Config.maxMsg := Nat.not_lt.mpr hfits
      obtain ⟨b, bs, hdrop⟩ := List.exists_cons_of_ne_nil (l := rest.drop (le32 l0 l1 l2 l3).toNat)
        (by simpa using hmore)
      simp [decode, decodeMessage, hmax, Nat.not_lt.mpr (Nat.le_of_lt hmore), hdrop]
    · simp [decode, decodeResponse, h80, h81, h82]
    · obtain ⟨b, bs, rfl⟩ := List.exists_cons_of_ne_nil hne
      rfl

/-- Settles O2: the decoder run on the six words. -/
theorem decodeWrittenWords : Obligations.DecodeWrittenWords := fun _ => ⟨rfl, rfl, rfl, rfl, rfl, rfl⟩

end Sys2Proof
end

section
/-! SUPPORT. What the CRC update tells apart (R101 to R103): one byte of it is 8 steps of the reflected construction
from `crc ^ b`, and a step is linear and loses nothing. -/

namespace Sys2Proof.Machine

/-! ### One step of the construction -/

/-- What a step applies to the shifted value under the bit that fell out. -/
def crcFeedback (bit : Bool) : Half := if bit then Config.crcPoly else 0

theorem crcFeedback_xor (a b : Bool) : crcFeedback (a ^^ b) = crcFeedback a ^^^ crcFeedback b := by
  cases a <;> cases b <;> decide

/-- A step without a case split: the shift, and the feedback of the bit that falls out. -/
theorem crcTableStep_eq (c : Half) : crcTableStep c = (c >>> 1) ^^^ crcFeedback (c.getLsbD 0) := by
  have hbit : c &&& 1 = BitVec.setWidth 16 (BitVec.ofBool (c.getLsbD 0)) :=
    BitVec.and_one_eq_setWidth_ofBool_getLsbD
  unfold crcTableStep
  rw [hbit]
  cases c.getLsbD 0 with
  | true => rfl
  | false => exact (BitVec.xor_zero).symm

/-- A step is linear. -/
theorem crcTableStep_xor (a b : Half) : crcTableStep (a ^^^ b) = crcTableStep a ^^^ crcTableStep b := by
  simp only [crcTableStep_eq, BitVec.ushiftRight_xor_distrib, BitVec.getLsbD_xor, crcFeedback_xor]
  ac_rfl

/-- The top bit after a step is the bit that fell out: `CRC_POLY` has its top bit set. -/
theorem crcTableStep_getLsbD_15 (c : Half) : (crcTableStep c).getLsbD 15 = c.getLsbD 0 := by
  have htop : ∀ bit, (crcFeedback bit).getLsbD 15 = bit := by decide
  rw [crcTableStep_eq, BitVec.getLsbD_xor, htop, BitVec.getLsbD_ushiftRight, BitVec.getLsbD_of_ge c _ (by decide),
    Bool.false_xor]

/-- When a 0 falls out a step only shifts. -/
theorem crcTableStep_of_even {c : Half} (h : c.getLsbD 0 = false) : crcTableStep c = c >>> 1 := by
  rw [crcTableStep_eq, h]
  exact BitVec.xor_zero

/-- A step takes no value but 0 to 0. -/
theorem crcTableStep_eq_zero {c : Half} (h : crcTableStep c = 0) : c = 0 := by
  have heven : c.getLsbD 0 = false := by rw [← crcTableStep_getLsbD_15, h]; rfl
  rw [crcTableStep_of_even heven] at h
  apply BitVec.eq_of_getLsbD_eq
  intro i _
  cases i with
  | zero => rw [heven]; rfl
  | succ i =>
    have hi := congrArg (BitVec.getLsbD · i) h
    simpa [Nat.add_comm] using hi

/-- A step loses nothing. -/
theorem crcTableStep_injective {a b : Half} (h : crcTableStep a = crcTableStep b) : a = b := by
  have hxor : crcTableStep (a ^^^ b) = 0 := by rw [crcTableStep_xor, h]; exact BitVec.xor_self
  exact BitVec.xor_eq_zero_iff.mp (crcTableStep_eq_zero hxor)

/-! ### The steps of one byte -/

/-- `n` steps of the construction. -/
def crcSteps : Nat → Half → Half
  | 0, c => c
  | n + 1, c => crcSteps n (crcTableStep c)

/-- An entry of the table is 8 steps from its index (R101). -/
theorem crcTableEntry_eq_steps (i : Byte) : crcTableEntry i = crcSteps 8 (i.setWidth 16) := rfl

theorem crcSteps_xor (n : Nat) (a b : Half) : crcSteps n (a ^^^ b) = crcSteps n a ^^^ crcSteps n b := by
  induction n generalizing a b with
  | zero => rfl
  | succ n ih => rw [crcSteps, crcTableStep_xor, ih]; rfl

theorem crcSteps_injective (n : Nat) {a b : Half} (h : crcSteps n a = crcSteps n b) : a = b := by
  induction n generalizing a b with
  | zero => exact h
  | succ n ih => exact crcTableStep_injective (ih h)

/-- While zeros fall out the steps only shift. -/
theorem crcSteps_of_low_zero {n : Nat} {c : Half} (h : ∀ k < n, c.getLsbD k = false) : crcSteps n c = c >>> n := by
  induction n generalizing c with
  | zero => simp [crcSteps]
  | succ n ih =>
    have hlow : ∀ k < n, (c >>> 1).getLsbD k = false := fun k hk => by
      rw [BitVec.getLsbD_ushiftRight]
      exact h (1 + k) (by omega)
    rw [crcSteps, crcTableStep_of_even (h 0 (Nat.zero_lt_succ n)), ih hlow, Nat.add_comm n 1, BitVec.shiftRight_add]

/-- One byte of the update is 8 steps from `crc ^ b` (R101, R102). -/
theorem crcUpdate_eq_steps (crc : Half) (b : Byte) : crcUpdate crc b = crcSteps 8 (crc ^^^ b.setWidth 16) := by
  let low : Half := (crc.setWidth 8).setWidth 16
  have hsplit : crc ^^^ b.setWidth 16 = (crc.setWidth 8 ^^^ b).setWidth 16 ^^^ (crc ^^^ low) := by
    calc crc ^^^ b.setWidth 16
      _ = crc ^^^ b.setWidth 16 ^^^ (low ^^^ low) := by rw [BitVec.xor_self, BitVec.xor_zero]
      _ = low ^^^ b.setWidth 16 ^^^ (crc ^^^ low) := by ac_rfl
      _ = _ := by rw [BitVec.setWidth_xor]
  have hlow : ∀ k < 8, (crc ^^^ low).getLsbD k = false := fun k hk => by
    simp [low, hk, show k < 16 by omega]
  have hhigh : crcSteps 8 (crc ^^^ low) = crc >>> 8 := by
    rw [crcSteps_of_low_zero hlow, BitVec.ushiftRight_xor_distrib]
    have hzero : low >>> 8 = 0 := by
      apply BitVec.eq_of_getLsbD_eq
      intro k hk
      simp [low]
    rw [hzero]
    exact BitVec.xor_zero
  rw [hsplit, crcSteps_xor, hhigh, crcUpdate, crcLookup_eq, crcTableEntry_eq_steps]

/-! ### The checksum -/

/-- Two bytes from the same checksum lead to different ones. -/
theorem crcUpdate_byte_injective {crc : Half} {x y : Byte} (h : crcUpdate crc x = crcUpdate crc y) : x = y := by
  rw [crcUpdate_eq_steps, crcUpdate_eq_steps] at h
  have hwide : x.setWidth 16 = y.setWidth 16 := (BitVec.xor_right_inj crc).mp (crcSteps_injective 8 h)
  simpa using congrArg (BitVec.setWidth 8) hwide

/-- The same bytes from two checksums lead to different ones. -/
theorem crc16_seed_injective {bs : List Byte} {a b : Half} (h : crc16 bs a = crc16 bs b) : a = b := by
  induction bs generalizing a b with
  | nil => exact h
  | cons x bs ih =>
    have hu := ih h
    rw [crcUpdate_eq_steps, crcUpdate_eq_steps] at hu
    exact (BitVec.xor_left_inj (x.setWidth 16)).mp (crcSteps_injective 8 hu)

/-- The two bytes of a frame checksum hold the whole checksum (R103). -/
theorem frameCrc_eq_iff {f g : List Byte} :
    frameCrc f = frameCrc g ↔ crc16 f Config.crcSeed = crc16 g Config.crcSeed := by
  refine ⟨fun h => ?_, fun h => by rw [frameCrc, h, frameCrc]⟩
  simp only [frameCrc, be16bytes, List.cons.injEq, and_true] at h
  obtain ⟨hhi, hlo⟩ := h
  have hnot : ~~~ crc16 f Config.crcSeed = ~~~ crc16 g Config.crcSeed := by
    rw [← be16_bytes (~~~ crc16 f Config.crcSeed), hhi, hlo, be16_bytes]
  simpa using hnot

/-- Settles O12: the differing byte leads to different checksums, and the bytes after it keep them apart. -/
theorem frameCrcTellsOneByteApart : Obligations.FrameCrcTellsOneByteApart := by
  intro a b x y hne h
  rw [frameCrc_eq_iff, crc16_append, crc16_append, crc16_cons, crc16_cons] at h
  exact hne (crcUpdate_byte_injective (crc16_seed_injective h))

/-- Settles O9: the printed table is the list of the construction's entries. -/
theorem crcTableIsTheConstruction : Obligations.CrcTableIsTheConstruction := by
  refine ⟨crcTable_length, fun i => ?_⟩
  have hwide : (BitVec.ofNat 8 i.val).setWidth 16 = BitVec.ofNat 16 i.val := by
    apply BitVec.eq_of_toNat_eq
    simp only [BitVec.toNat_setWidth, BitVec.toNat_ofNat]
    omega
  rw [crcTable_eq_construction, List.getElem?_map, List.getElem?_range i.isLt, Option.map_some, crcTableEntry, hwide]
  rfl

end Sys2Proof.Machine
end

section
/-! SUPPORT. The six starts of a transaction (R111 to R116, R140): each is one start with its own PCB and `SEQ`, whose
outcomes are said once; and the sequence bit over several of them (R141). -/

namespace Sys2Proof.Machine

open Sys2Proof.Safety (bytesAt frameBytes accepted rejected isStart isIBlock isPcbReset execAll)

/-! ### `SEQ` after a start -/

/-- `PCB_RESET` resets `SEQ` (R113). -/
@[simp] theorem seqAfterStart_pcbReset (p : Params) (q : Bool) : seqAfterStart p p.pcbReset q = false := if_pos rfl

/-- No I-block's PCB is `PCB_RESET` (R10), so an I-block's start leaves the toggled `SEQ` (R140). -/
theorem seqAfterStart_iBlockPcb {p : Params} (hp : p.Legal) (b q : Bool) : seqAfterStart p (iBlockPcb b) q = q := by
  cases b with
  | false => exact seqAfterStart_of_ne hp.pcbReset_ne_ns0.symm q
  | true => exact seqAfterStart_of_ne hp.pcbReset_ne_ns1.symm q

/-! ### A start, whichever row asks for it -/

/-- In the state `s` the operation `i` is a start with this PCB and these lengths, `SEQ` having the value `q` before
the PCB is looked at. -/
def StartsAs (i : Instr) (s : State) (pcb : Byte) (o e : Half) (q : Bool) : Prop :=
  effect i s = startTransaction Config.params pcb o e { s with seq := q }

section
variable {s : State} (o e : Half)

theorem startsAs_t1Transact (pcb : Byte) (hb : s.t1busy = false) : StartsAs (.t1Transact pcb o e) s pcb o e s.seq :=
  transact_free hb

theorem startsAs_anyPcb (pcb : Byte) (hb : s.t1busy = false) : StartsAs (.anyPcb pcb o e) s pcb o e s.seq :=
  transact_free hb

theorem startsAs_ctrlReset (hb : s.t1busy = false) :
    StartsAs (.ctrlReset o e) s Config.params.pcbReset o e s.seq :=
  transact_free hb

theorem startsAs_t1TransactApdu (hb : s.t1busy = false) :
    StartsAs (.t1TransactApdu o e) s (iBlockPcb s.seq) o e (!s.seq) :=
  startIBlock_free hb

theorem startsAs_iBlockNs0 (hb : s.t1busy = false) (hq : s.seq = false) :
    StartsAs (.iBlockNs0 o e) s (iBlockPcb false) o e true := by
  have h := iBlockFor_free (p := Config.params) (o := o) (e := e) hb hq
  rwa [hq] at h

theorem startsAs_iBlockNs1 (hb : s.t1busy = false) (hq : s.seq = true) :
    StartsAs (.iBlockNs1 o e) s (iBlockPcb true) o e false := by
  have h := iBlockFor_free (p := Config.params) (o := o) (e := e) hb hq
  rwa [hq] at h

end

/-- `TXF` after an accepted start: the frame at its front (R114). -/
def startedTxf (pcb : Byte) (o e : Half) (data : List Byte) (s : State) : Memory :=
  s.txf.writeN 0 (frameBytes Config.params.nadTx pcb (if o.toNat > 0 then o else e) data)

theorem read_startedTxf (pcb : Byte) (o e : Half) (data : List Byte) (s : State) (a : Nat) :
    (startedTxf pcb o e data s).read a =
      (bytesAt 0 (frameBytes Config.params.nadTx pcb (if o.toNat > 0 then o else e) data) a).or (s.txf.read a) :=
  Memory.read_writeN _ _ _ _

section
variable {i : Instr} {s : State} {pcb : Byte} {o e : Half} {q : Bool}

/-- A payload that stands in `APDU` and is short enough is accepted (R112). -/
theorem StartsAs.accepted {data : List Byte} (h : StartsAs i s pcb o e q) (ho : o.toNat < 4089)
    (hd : s.apdu.readN 0 o.toNat = some data) :
    exec i s = .next (accepted pcb o e (seqAfterStart Config.params pcb q) (startedTxf pcb o e data s) s) :=
  exec_eq_next_of_effect (h.trans (startTransaction_accepted Config.params_legal ho hd))

/-- A payload that is too long is rejected (R116). -/
theorem StartsAs.rejected (h : StartsAs i s pcb o e q) (ho : 4089 ≤ o.toNat) :
    exec i s = .next (rejected pcb o e (seqAfterStart Config.params pcb q) s) :=
  exec_eq_next_of_effect (h.trans (startTransaction_tooLong ho))

/-- A payload nobody wrote is a fault (R230). -/
theorem StartsAs.unwritten (h : StartsAs i s pcb o e q) (ho : o.toNat < 4089) (hd : s.apdu.readN 0 o.toNat = none) :
    exec i s = .next (s.raise (.unwritten .apdu 0 o.toNat)) := by
  refine exec_eq_raise_of_effect (h.trans ?_)
  simp only [startTransaction_eq Config.params_legal, hd]
  exact if_neg (Nat.not_le.mpr ho)

/-- While busy every start is `T1Overlap`, whatever its operands (R111, R207). -/
theorem exec_start_busy (hi : isStart i = true) (hb : s.t1busy = true) : exec i s = .next (s.raise .t1Overlap) := by
  apply exec_eq_raise_of_effect
  cases i with
  | t1Transact | anyPcb | ctrlReset => exact transact_busy hb
  | t1TransactApdu => exact startIBlock_busy hb
  | iBlockNs0 | iBlockNs1 => exact iBlockFor_busy hb
  | _ => cases hi

end

/-! ### The statements about one start -/

/-- Settles O14: a start with `PCB_RESET`, which resets `SEQ`. -/
theorem ctrlResetStarts : Obligations.CtrlResetStarts := by
  intro o e s data hb ho hd
  refine ⟨_, ?_, read_startedTxf _ o e data s⟩
  rw [(startsAs_ctrlReset o e hb).accepted ho hd, seqAfterStart_pcbReset]

/-- Settles O15: the three rows are a start with the PCB of the present `SEQ` after `SEQ` was toggled. -/
theorem transactApduStarts : Obligations.TransactApduStarts := by
  intro o e s data hb ho hd
  have hseq := seqAfterStart_iBlockPcb Config.params_legal
  refine ⟨_, ?_, fun hq => ?_, fun hq => ?_, read_startedTxf (iBlockPcb s.seq) o e data s⟩
  · rw [(startsAs_t1TransactApdu o e hb).accepted ho hd, hseq]
    rfl
  · rw [(startsAs_iBlockNs0 o e hb hq).accepted ho hd, hseq, hq]
    rfl
  · rw [(startsAs_iBlockNs1 o e hb hq).accepted ho hd, hseq, hq]
    rfl

/-- Settles O16: six times the rejection of a start, each with its PCB and its `SEQ`. -/
theorem tooLongIsRejected : Obligations.TooLongIsRejected := by
  intro pcb o e s hb ho
  have hseq := seqAfterStart_iBlockPcb Config.params_legal
  refine ⟨(startsAs_t1Transact o e pcb hb).rejected ho, (startsAs_anyPcb o e pcb hb).rejected ho, ?_, ?_,
    fun hq => ?_, fun hq => ?_⟩
  · rw [(startsAs_ctrlReset o e hb).rejected ho, seqAfterStart_pcbReset]
  · rw [(startsAs_t1TransactApdu o e hb).rejected ho, hseq]
    rfl
  · rw [(startsAs_iBlockNs0 o e hb hq).rejected ho, hseq]
    rfl
  · rw [(startsAs_iBlockNs1 o e hb hq).rejected ho, hseq]
    rfl

/-- Settles O17: the busy engine is tested before anything else. -/
theorem startWhileBusyFaults : Obligations.StartWhileBusyFaults := fun _ _ _ _ hb =>
  ⟨exec_start_busy rfl hb, exec_start_busy rfl hb, exec_start_busy rfl hb, exec_start_busy rfl hb,
    exec_start_busy rfl hb, exec_start_busy rfl hb⟩

/-- Settles O18: six times the fault of reading the payload, from the state before the start. -/
theorem startWithoutPayloadFaults : Obligations.StartWithoutPayloadFaults := fun pcb o e _ hb ho hd =>
  ⟨(startsAs_t1Transact o e pcb hb).unwritten ho hd, (startsAs_anyPcb o e pcb hb).unwritten ho hd,
    (startsAs_ctrlReset o e hb).unwritten ho hd, (startsAs_t1TransactApdu o e hb).unwritten ho hd,
    fun hq => (startsAs_iBlockNs0 o e hb hq).unwritten ho hd,
    fun hq => (startsAs_iBlockNs1 o e hb hq).unwritten ho hd⟩

/-! ### The frame read back -/

/-- The LEN field and the DATA of a frame that stands at the front of a buffer (R75, R114). -/
theorem frame_fields (m : Memory) (nad pcb : Byte) (len : Half) (data : List Byte) :
    (m.writeN 0 (frameBytes nad pcb len data)).read 2 = some (hiByte len) ∧
    (m.writeN 0 (frameBytes nad pcb len data)).read 3 = some (loByte len) ∧
    (m.writeN 0 (frameBytes nad pcb len data)).readN 4 data.length = some data := by
  have hall := Memory.readN_writeN_same m 0 (frameBytes nad pcb len data)
  refine ⟨?_, ?_, ?_⟩
  · simp [Memory.read_writeN, bytesAt, frameBytes]
  · simp [Memory.read_writeN, bytesAt, frameBytes]
  · rw [Memory.readN_part hall (by rw [frameBytes_length]; omega)]
    simp [frameBytes]

/-- Settles O19: LEN is the payload's length, or the reply size where there is no payload, which is then 0 as well. -/
theorem frameRoundTrip : Obligations.FrameRoundTrip := by
  intro pcb o e s data hb ho hd hlen
  obtain ⟨hhi, hlo, hdata⟩ := frame_fields s.txf Config.params.nadTx pcb (if o.toNat > 0 then o else e) data
  refine ⟨_, _, _, (startsAs_t1Transact o e pcb hb).accepted ho hd, hhi, hlo, ?_⟩
  have hlenValue : (if o.toNat > 0 then o else e).toNat = data.length := by
    rw [Memory.readN_length hd]
    split
    · rfl
    · rename_i hzero
      rcases hlen with hpos | rfl
      · exact absurd hpos hzero
      · exact (Nat.eq_zero_of_not_pos hzero).symm
  rw [be16_bytes, hlenValue]
  exact hdata

/-! ### Successive starts -/

/-- A raised fault stands in the record. -/
theorem State.raise_fault_ne_none (s : State) (f : Fault) : (s.raise f).fault ≠ none := by simp

/-- A start without a fault found the engine free. -/
theorem free_of_start {i : Instr} {s t : State} (hi : isStart i = true) (h : exec i s = .next t)
    (ht : t.fault = none) : s.t1busy = false := by
  cases hb : s.t1busy with
  | false => rfl
  | true =>
    rw [exec_start_busy hi hb] at h
    cases h
    exact absurd ht (s.raise_fault_ne_none _)

/-- A start without a fault, accepted or rejected, leaves its PCB and its `SEQ` in the registers (R112, R113, R116). -/
theorem StartsAs.registers {i : Instr} {s t : State} {pcb : Byte} {o e : Half} {q : Bool}
    (h : StartsAs i s pcb o e q) (hx : exec i s = .next t) (ht : t.fault = none) :
    t.t1pcb = pcb ∧ t.seq = seqAfterStart Config.params pcb q := by
  by_cases ho : 4089 ≤ o.toNat
  · rw [h.rejected ho] at hx
    cases hx
    exact ⟨rfl, rfl⟩
  · have ho := Nat.not_le.mp ho
    cases hd : s.apdu.readN 0 o.toNat with
    | some data =>
      rw [h.accepted ho hd] at hx
      cases hx
      exact ⟨rfl, rfl⟩
    | none =>
      rw [h.unwritten ho hd] at hx
      cases hx
      exact absurd ht (s.raise_fault_ne_none _)

/-- A `T1TransactApdu` call without a fault sends the PCB of `SEQ` and toggles it (R140). -/
theorem t1TransactApdu_registers {n e : Half} {s t : State} (h : exec (.t1TransactApdu n e) s = .next t)
    (ht : t.fault = none) : t.t1pcb = iBlockPcb s.seq ∧ t.seq = !s.seq := by
  have hb := free_of_start rfl h ht
  rw [← seqAfterStart_iBlockPcb Config.params_legal s.seq (!s.seq)]
  exact (startsAs_t1TransactApdu n e hb).registers h ht

/-- A `PCB_RESET` transaction without a fault leaves `SEQ` at 0 (R113). -/
theorem pcbReset_seq {r : Instr} {s t : State} (hr : isPcbReset r = true) (h : exec r s = .next t)
    (ht : t.fault = none) : t.seq = false := by
  cases r with
  | ctrlReset o e =>
    rw [((startsAs_ctrlReset o e (free_of_start rfl h ht)).registers h ht).2, seqAfterStart_pcbReset]
  | t1Transact pcb o e =>
    obtain rfl : pcb = Config.params.pcbReset := by simpa [isPcbReset] using hr
    rw [((startsAs_t1Transact o e _ (free_of_start rfl h ht)).registers h ht).2, seqAfterStart_pcbReset]
  | anyPcb pcb o e =>
    obtain rfl : pcb = Config.params.pcbReset := by simpa [isPcbReset] using hr
    rw [((startsAs_anyPcb o e _ (free_of_start rfl h ht)).registers h ht).2, seqAfterStart_pcbReset]
  | _ => cases hr

/-- An operation that is no I-block and no `PCB_RESET` transaction leaves `SEQ` as it was (R129). -/
theorem exec_keeps_seq {i : Instr} {s t : State} (hi : isIBlock i = false ∧ isPcbReset i = false)
    (h : exec i s = .next t) : t.seq = s.seq := by
  obtain ⟨hother, hpcb⟩ := onlyStartsWriteSeq i s t h
  cases i with
  | t1Transact pcb o e => exact hpcb pcb o e (.inl rfl) (by simpa [isPcbReset] using hi.2)
  | anyPcb pcb o e => exact hpcb pcb o e (.inr rfl) (by simpa [isPcbReset] using hi.2)
  | ctrlReset => exact absurd hi.2 (by simp [isPcbReset])
  | t1TransactApdu | iBlockNs0 | iBlockNs1 => exact absurd hi.1 (by simp [isIBlock])
  | _ => exact hother rfl

/-- So do any number of them, one after the other. -/
theorem execAll_keeps_seq {is : List Instr} {s t : State}
    (his : ∀ i ∈ is, isIBlock i = false ∧ isPcbReset i = false) (h : execAll is s = some t) : t.seq = s.seq := by
  induction is generalizing s with
  | nil =>
    cases h
    rfl
  | cons i is ih =>
    obtain ⟨u, hu⟩ := exec_isNext i s
    rw [execAll, hu] at h
    rw [ih (fun j hj => his j (List.mem_cons_of_mem i hj)) h]
    exact exec_keeps_seq (his i List.mem_cons_self) hu

/-- Settles O21: what lies between leaves `SEQ` as the first start left it, toggled by an I-block, 0 after a reset. -/
theorem sequenceBitAlternates : Obligations.SequenceBitAlternates := by
  intro n₂ e₂ is s t u v his hbetween hsecond hv
  have hpcb : v.t1pcb = iBlockPcb t.seq := by
    rw [(t1TransactApdu_registers hsecond hv).1, execAll_keeps_seq his hbetween]
  refine ⟨fun n₁ e₁ hfirst ht => ?_, fun r hr hreset ht => ?_⟩
  · obtain ⟨hpcb₁, hseq⟩ := t1TransactApdu_registers hfirst ht
    rw [hpcb, hpcb₁, hseq]
    cases s.seq with
    | false => exact .inl ⟨rfl, rfl⟩
    | true => exact .inr ⟨rfl, rfl⟩
  · rw [hpcb, pcbReset_seq hr hreset ht]
    rfl

end Sys2Proof.Machine
end

section
/-! SUPPORT. Which operation a step runs (R214): the turn at the head of the schedule, or the block's own move; the
writes of the outside agents; and the steps at reset and at the end of a run. -/

namespace Sys2Proof.Machine

open Sys2Proof.Safety (bytesAt Inv EndOfRun)

/-! ### The turn a step takes -/

section
variable {s : State}

/-- The turn at the head of the schedule is taken next. -/
theorem step_scheduled {t : Turn} {ts : List Turn} (hf : s.fault = none) (hs : s.sched = t :: ts) :
    step s = runTurn t (s.withSched ts) := by
  simp only [step, hf, nextTurn, hs]

/-- With nothing scheduled the block moves by itself. -/
theorem step_unscheduled (hf : s.fault = none) (hs : s.sched = []) :
    step s = runTurn (ownTurn s).1 (ownTurn s).2 := by
  simp only [step, hf, nextTurn, hs]

/-- With nothing scheduled and an idle engine the framer moves. -/
theorem step_idle (hf : s.fault = none) (hs : s.sched = []) (hi : s.t1state = .idle) :
    step s = runOp (framerOp s) s := by
  rw [step_unscheduled hf hs, ownTurn, if_pos hi]
  rfl

/-- A well-formed request runs its operation where that is admitted. -/
theorem runTurn_request {i : Instr} (hw : i.wf Config.params = true) (u : State) :
    runTurn (.request i) u = runOp (requestOp i u) u := if_pos hw

end

/-- Whether a request is admitted does not depend on the turns to come: it is a question of `MSG` and `FSTATE`. -/
theorem admitted_withSched (i : Instr) (s : State) (ts : List Turn) : admitted i (s.withSched ts) = admitted i s := by
  cases i <;> rfl

/-- Settles O5: each turn of the schedule is one branch of `runTurn`, which asks its agent for the operation. -/
theorem stepRunsTheTurn : Obligations.StepRunsTheTurn := by
  intro s ts hf
  have framer : s.sched = .framer :: ts → step s = runOp (framerOp s) (s.withSched ts) := step_scheduled hf
  have engine : s.sched = .engine :: ts → step s = runOp (engineOp s) (s.withSched ts) := step_scheduled hf
  refine ⟨fun h hs => ?_, fun h hs => ?_, fun h hs => ?_, fun h hs => ?_, fun h hs => ?_, fun h hs => ?_,
    fun h hs => ?_, fun h hs => ?_, fun i h hw ha => ?_, fun i h hw ha => ?_, fun i h hw => ?_⟩
  iterate 4
    · rw [framer h, framerOp, hs]
      rfl
  iterate 4
    · rw [engine h, engineOp, hs]
      rfl
  · rw [step_scheduled hf h, runTurn_request hw, requestOp, admitted_withSched, if_pos ha]
    rfl
  · rw [step_scheduled hf h, runTurn_request hw, requestOp, admitted_withSched, if_neg (by simp [ha])]
    rfl
  · rw [step_scheduled hf h]
    exact if_neg (by simp [hw])

/-- Settles O6: the three cases of `ownTurn`; in the last the free value decides. -/
theorem stepWithoutSchedule : Obligations.StepWithoutSchedule := by
  intro s hf hs
  refine ⟨step_idle hf hs, fun hne hp => ?_, fun hne hp => ?_⟩
  · rw [step_unscheduled hf hs, ownTurn, if_neg hne, if_pos hp]
    rfl
  · rw [step_unscheduled hf hs, ownTurn, if_neg hne, if_neg hp]
    cases Config.engineMovesFirst s.choices with
    | true => exact .inr rfl
    | false => exact .inl rfl

/-! ### The stored message -/

/-- A message that decodes begins with the type byte of its operation (R80). -/
theorem decodeMessage_eq_ok {bs rest : List Byte} {i : Instr} (h : decodeMessage bs = .ok (i, rest)) :
    ∃ t tail m, bs = t :: tail ∧ i = commandOf t m := by
  unfold decodeMessage at h
  split at h
  · split at h
    · cases h
    · split at h
      · cases h
      · cases h
        exact ⟨_, _, _, rfl, rfl⟩
  · cases h

/-- A message that stands in `MSG` has its first byte at `MSG[0]`. -/
theorem storedMessage_head {p : Params} {s : State} {t : Byte} {tail : List Byte}
    (h : storedMessage p s = some (t :: tail)) : s.msg.read 0 = some t := by
  unfold storedMessage at h
  split at h
  · rename_i len hlen
    cases hr : memRead p .msg 0 (Config.hdr + len.toNat) s with
    | error f =>
      rw [hr] at h
      cases h
    | ok bs =>
      rw [hr] at h
      cases h
      exact Memory.readN_read (memRead_eq_ok.mp hr).2 (k := 0) (by simp only [Config.hdr]; omega)
  · cases h

/-- In BUILD, DISPATCH is the operation the stored message decodes to (R171, R173). -/
theorem exec_dispatch_stored {s : State} {bs : List Byte} {i : Instr} (hb : s.fstate = .build)
    (hstored : storedMessage Config.params s = some bs) (hdecode : decodeMessage bs = .ok (i, [])) :
    exec .dispatch s = exec i s := by
  obtain ⟨t, tail, m, rfl, rfl⟩ := decodeMessage_eq_ok hdecode
  have hrow : effect .dispatch s = runCommand Config.params (commandKind t) s :=
    dispatch_build Config.params_legal hb (storedMessage_head hstored)
  rw [exec_eq, exec_eq, hrow, effect_commandOf]

/-- Settles O4: in BUILD the framer's operation is DISPATCH, whoever gave it the turn. -/
theorem stepRunsTheStoredMessage : Obligations.StepRunsTheStoredMessage := by
  intro s bs i hf hb hstored hdecode
  refine ⟨fun ts hs => ?_, fun hs hi => ?_⟩
  · rw [(stepRunsTheTurn s ts hf).2.1 hs hb]
    exact exec_dispatch_stored (s := s.withSched ts) hb hstored hdecode
  · rw [step_idle hf hs hi, framerOp, hb]
    exact exec_dispatch_stored hb hstored hdecode

/-! ### The outside agents -/

/-- A first fault is written to an empty record. -/
theorem State.raise_of_none {s : State} (hf : s.fault = none) (f : Fault) :
    s.raise f = { s with fault := some f } := by
  rw [State.raise, hf]
  rfl

/-- Settles O49: the busy engine is tested first, then the bounds. -/
theorem callerWrites : Obligations.CallerWrites := by
  intro s ts off bs hf hs
  have hstep : step s = settle (s.withSched ts) (callerWrite Config.params off bs (s.withSched ts)) :=
    step_scheduled hf hs
  have hraise := State.raise_of_none (s := s.withSched ts) hf
  have hfree : s.t1busy = false →
      callerWrite Config.params off bs (s.withSched ts) = memWrite Config.params .apdu off bs (s.withSched ts) :=
    fun hb => if_neg (by simp [State.withSched, hb])
  refine ⟨fun hb hfits => ⟨s.apdu.writeN off bs, ?_, Memory.read_writeN _ _ _⟩, fun hb hover => ?_, fun hb => ?_⟩
  · rw [hstep, hfree hb, memWrite_ok _ hfits]
    rfl
  · rw [hstep, hfree hb, memWrite_eq_error.mpr ⟨hover, rfl⟩, settle_error, hraise]
    rfl
  · rw [hstep, callerWrite, if_pos (show (s.withSched ts).t1busy = true from hb), settle_error, hraise]
    rfl

/-- Settles O50: `FSTATE` is tested first, then the bounds. -/
theorem processorWrites : Obligations.ProcessorWrites := by
  intro s ts off bs hf hs
  have hstep : step s = settle (s.withSched ts) (processorWrite Config.params off bs (s.withSched ts)) :=
    step_scheduled hf hs
  have hraise := State.raise_of_none (s := s.withSched ts) hf
  have hcap : capacity Config.params .msg = 10 + Config.params.msgPayloadCap := rfl
  have hfree : s.fstate = .process → processorWrite Config.params off bs (s.withSched ts) =
      memWrite Config.params .msg (10 + off) bs (s.withSched ts) :=
    fun hp => if_neg (Classical.not_not.mpr hp)
  refine ⟨fun hp hfits => ⟨s.msg.writeN (10 + off) bs, ?_, Memory.read_writeN _ _ _⟩, fun hp hover => ?_, fun hp => ?_⟩
  · rw [hstep, hfree hp, memWrite_ok _ (by omega)]
    rfl
  · rw [hstep, hfree hp, memWrite_eq_error.mpr ⟨by omega, rfl⟩, settle_error, hraise]
    rfl
  · rw [hstep, processorWrite, if_pos (show (s.withSched ts).fstate ≠ .process from hp), settle_error, hraise]
    rfl

/-! ### Reset and the end of a run -/

/-- In AWAIT with no complete message, REASSEMBLE holds while no read is answered (R60, R152). -/
theorem reassemble_hold {p : Params} (hp : p.Legal) {s : State} (hs : s.fstate = .await)
    (hpart : s.fill < Config.hdr ∨
      ∃ len, rxbLength p s = .ok len ∧ len.toNat ≤ Config.maxMsg ∧ s.fill < Config.hdr + len.toNat)
    (hu : s.usbRx = []) : reassemble p s = .ok s := by
  rcases hpart with hf | ⟨len, hlen, hmax, hf⟩
  · rw [reassemble_short hs hf, readMore_hold hu]
  · obtain ⟨l0, l1, l2, l3, hl, rfl⟩ := rxbLength_eq_ok hlen
    rw [reassemble_incomplete hp hs hl hmax hf, readMore_hold hu]

/-- Settles O60: by the invariant the engine is idle, so the framer moves, and its read holds. -/
theorem endOfRunIsStable : Obligations.EndOfRunIsStable := by
  rintro s hinv ⟨hawait, hpart, hu, -, hb, hf⟩ hs
  have hidle : s.t1state = .idle := Classical.byContradiction fun hne => by simp [hinv.busy_iff.mpr hne] at hb
  rw [step_idle hf hs hidle, framerOp, hawait]
  exact exec_eq_next_of_effect (i := .reassemble) (reassemble_hold Config.params_legal hawait hpart hu)

/-- Settles O59: at reset the engine is idle and nothing is scheduled, buffered or answered. -/
theorem firstStepIsReassemble : Obligations.FirstStepIsReassemble := by
  have hstep : step State.reset = exec .reassemble State.reset := step_idle rfl rfl rfl
  refine ⟨hstep, hstep.trans (exec_eq_next_of_effect (i := .reassemble) ?_)⟩
  exact reassemble_hold Config.params_legal rfl (.inl (by decide)) rfl

end Sys2Proof.Machine
end

section
/-! SUPPORT. The framer (43_dispatcher.md): which operations are not enabled, what a command can leave, the
transitions of `FSTATE`, the reach of the operations into the buffers, and a response's bytes over the whole flush. -/

namespace Sys2Proof.Machine

open Sys2Proof.Safety (answered answersInBuild bytesAt isProcessorAnswer isStart sentBytes run Inv)

/-! ### Response rows -/

/-- Settles O38: each row is one run of the header writer with the row's own type byte. -/
theorem responseRowsResult : Obligations.ResponseRowsResult := fun r _ hs =>
  ⟨_, _, _, exec_headerCommand (i := .rspDataBlock r) hs rfl, exec_headerCommand (i := .rspSlotStatus r) hs rfl,
    exec_headerCommand (i := .rspParameters r) hs rfl,
    fun a => ⟨read_respondedMsg _ _ _ _ _ _ a, read_respondedMsg _ _ _ _ _ _ a, read_respondedMsg _ _ _ _ _ _ a⟩⟩

/-! ### Operations that are not enabled -/

/-- An operation that is not enabled is not taken (R15). -/
theorem whenEnabled_of_false {b : Bool} (h : b = false) (s : State) (r : Except Fault State) :
    whenEnabled b s r = .ok s := by
  rw [h, whenEnabled_false]

/-- Settles O51: each operation is guarded by the test of its row. -/
theorem disabledOperationsChangeNothing : Obligations.DisabledOperationsChangeNothing := by
  intro s i
  refine ⟨?_, ?_, ?_, ?_, ?_, ?_, ?_, ?_, ?_, ?_⟩
  · rintro hs rfl
    exact exec_eq_next_of_effect (i := .reassemble) (whenEnabled_of_false (by simpa using hs) _ _)
  · intro hs hi
    have row := fun k => runCommand_disabled Config.params k hs
    apply exec_eq_next_of_effect
    rcases hi with rfl | ⟨t, m, rfl | rfl | rfl | rfl | rfl | rfl | rfl | rfl⟩
    · exact whenEnabled_of_false (by simpa using hs) _ _
    · exact row .powerOn
    · exact row .powerOff
    · exact row .getSlotStatus
    · exact row .xfrBlock
    · exact row .getParameters
    · exact row .resetParameters
    · exact row .setParameters
    · exact row .unknown
  · intro r hs hi
    apply exec_eq_next_of_effect
    rcases hi with rfl | rfl | rfl <;> exact whenEnabled_of_false (by simpa using hs) _ _
  · rintro rv hs (⟨hrv, rfl⟩ | ⟨hrv, rfl⟩)
    · apply exec_eq_next_of_effect (i := .xfrBlockAnswerOk rv)
      refine (answerOk_eq Config.params_legal rv s).trans ?_
      rw [if_neg (Classical.not_not.mpr hs), if_pos hrv]
    · apply exec_eq_next_of_effect (i := .xfrBlockAnswerFail rv)
      refine (answerFail_eq Config.params_legal rv s).trans ?_
      rw [if_neg (Classical.not_not.mpr hs), if_neg (Int.not_lt.mpr hrv)]
  · rintro hs rfl
    apply exec_eq_next_of_effect (i := .flushChunk)
    refine (flushChunk_eq Config.params s).trans (if_neg ?_)
    rintro ⟨hf, hx⟩
    rcases hs with hs | hs
    · exact hs hf
    · simp [hx] at hs
  · rintro hs rfl
    exact exec_eq_next_of_effect (i := .t1WriteAttempt) (whenEnabled_of_false (by simpa using hs) _ _)
  · rintro hs rfl
    exact exec_eq_next_of_effect (i := .t1RdhdrAttempt) (whenEnabled_of_false (by simpa using hs) _ _)
  · rintro hs rfl
    exact exec_eq_next_of_effect (i := .t1RdbodyAttempt) (whenEnabled_of_false (by simpa using hs) _ _)
  · rintro o e hb hq rfl
    exact exec_eq_next_of_effect (i := .iBlockNs0 o e) (whenEnabled_of_false (by simp [hb, hq]) _ _)
  · rintro o e hb hq rfl
    exact exec_eq_next_of_effect (i := .iBlockNs1 o e) (whenEnabled_of_false (by simp [hb, hq]) _ _)

/-- Settles O52: each operation tests for an answer after its reads, which the invariant lets complete. -/
theorem requestsHold : Obligations.RequestsHold := by
  intro s hinv
  refine ⟨fun chunk hs hu hread => ?_, fun hs hu => ?_, fun hs hu => ?_, fun hs hu => ?_⟩
  · apply exec_eq_next_of_effect (i := .flushChunk)
    have hfits : s.foff + chunkSize Config.params s ≤ capacity Config.params .msg := by
      have hcap := (hinv.rspLen_range hs).2
      have hlt := hinv.foff_lt hs
      simp only [chunkSize, capacity]
      omega
    have hchunk : memRead Config.params .msg s.foff (chunkSize Config.params s) s = .ok chunk := memRead_ok hfits hread
    refine (flushChunk_eq Config.params s).trans ?_
    rw [hchunk, hu]
    exact ite_self _
  · obtain ⟨f, hf⟩ := exists_frame hinv (by simp [hs])
    exact exec_eq_next_of_effect (i := .t1WriteAttempt)
      ((writeAttempt_eq Config.params_legal s).trans (by simp only [if_pos hs, hf, hu]))
  · exact exec_eq_next_of_effect (i := .t1RdhdrAttempt)
      ((rdhdrAttempt_eq Config.params_legal s).trans (by simp only [if_pos hs, hu]))
  · exact exec_eq_next_of_effect (i := .t1RdbodyAttempt)
      ((rdbodyAttempt_eq Config.params_legal fun _ => (hinv.body_fits hs).2).trans (by simp only [if_pos hs, hu]))

/-! ### What a command leaves -/

/-- In BUILD a row of the dispatch table asks the processor, if it is the transfer-block's, and otherwise leaves a
response (R173, R178). -/
theorem runCommand_build_cases {k : CommandKind} {s t : State} (hb : s.fstate = .build)
    (h : runCommand Config.params k s = .ok t) :
    (k = .xfrBlock ∧ ∃ len, t = { s.record (.process len) with fstate := .process }) ∨
    (k ≠ .xfrBlock ∧ ∃ len msg, t = answered len msg s) := by
  cases k with
  | powerOn => exact .inr ⟨nofun, _, _, Except.ok.inj (h.symm.trans (powerOn_build Config.params_legal hb))⟩
  | xfrBlock =>
    have h' := (xfrBlockStart_eq Config.params s).symm.trans h
    rw [if_pos hb] at h'
    split at h'
    · cases h'
      exact .inl ⟨rfl, _, rfl⟩
    · cases h'
  | powerOff | getSlotStatus | getParameters | resetParameters | setParameters | unknown =>
    exact .inr ⟨nofun, _, _,
      Except.ok.inj (h.symm.trans (headerCommand_build Config.params_legal hb _ _ _ _ _))⟩

/-- DISPATCH without a fault was not enabled, or ran the row that `MSG[0]` selects (R171). -/
theorem dispatch_cases {s t : State} (h : dispatch Config.params s = .ok t) :
    t = s ∨ s.fstate = .build ∧ ∃ b, s.msg.read 0 = some b ∧ runCommand Config.params (commandKind b) s = .ok t := by
  rcases whenEnabled_eq_ok.mp h with ⟨hb, h⟩ | ⟨-, rfl⟩
  · obtain ⟨bs, hread, hrun⟩ := except_bind_eq_ok.mp h
    match bs, memRead_length hread with
    | [b], _ =>
      exact .inr ⟨by simpa using hb, b, Memory.readN_read (memRead_eq_ok.mp hread).2 (k := 0) (by decide), hrun⟩
  · exact .inl rfl

/-- Settles O40: a response is written to `MSG` and the flush's registers; a transfer-block records its request. -/
theorem commandsKeepNoState : Obligations.CommandsKeepNoState := by
  intro s t h hfault
  rcases exec_eq_next.mp h with hok | ⟨f, -, rfl⟩
  · rcases dispatch_cases hok with rfl | ⟨hb, b, -, hrun⟩
    · exact ⟨rfl, .inl rfl⟩
    · rcases runCommand_build_cases hb hrun with ⟨-, len, rfl⟩ | ⟨-, len, msg, rfl⟩
      · exact ⟨rfl, .inr ⟨len, rfl⟩⟩
      · exact ⟨rfl, .inl rfl⟩
  · refine ⟨?_, .inl rfl⟩
    calc s.raise f
      _ = { s with fault := (s.raise f).fault } := rfl
      _ = s := by rw [hfault]

/-! ### Transitions of `FSTATE` -/

/-- An operation without a fault keeps `FSTATE`, or takes it along one of the edges of the state machine (R170). -/
theorem Did.fstate_cases {i : Instr} {s t : State} (h : Did i s t) :
    t.fstate = s.fstate ∨ (s.fstate = .await ∧ t.fstate = .build) ∨
    (s.fstate = .build ∧ (answersInBuild i = true ∨ ∃ m, i = .xfrBlock m)) ∨
    (s.fstate = .process ∧ t.fstate = .flush ∧ isProcessorAnswer i = true) ∨
    (s.fstate = .flush ∧ t.fstate = .await) := by
  cases h with
  | answer _ _ _ _ _ _ hs =>
    rcases hs with ⟨hb, ha⟩ | ⟨hp, ha⟩
    · exact .inr (.inr (.inl ⟨hb, .inl ha⟩))
    · exact .inr (.inr (.inr (.inl ⟨hp, rfl, ha⟩)))
  | process _ hb hj =>
    rcases hj with rfl | hj
    · exact .inr (.inr (.inl ⟨hb, .inl rfl⟩))
    · exact .inr (.inr (.inl ⟨hb, .inr hj⟩))
  | yield _ _ hs => exact .inr (.inl ⟨hs, rfl⟩)
  | chunk _ _ _ hs =>
    rw [State.tookUsbTx_fstate]
    split
    · exact .inr (.inr (.inr (.inr ⟨hs, rfl⟩)))
    · exact .inl rfl
  | _ => exact .inl (by simp)

/-- The command due is the one `MSG[0]` selects in BUILD (R171). -/
theorem dueCommand_eq_some {s : State} {k : CommandKind} (h : dueCommand s = some k) :
    ∃ b, s.msg.read 0 = some b ∧ commandKind b = k := by
  unfold dueCommand at h
  split at h
  · exact Option.map_eq_some_iff.mp h
  · cases h

/-- The edge out of BUILD that `MSG[0]` selects (R170, R171, R178). -/
def LeftBuild (s t : State) : Prop :=
  (t.fstate = .process ∧ s.msg.read 0 = some Config.cmdXfrBlock) ∨
  (t.fstate = .flush ∧ s.msg.read 0 ≠ some Config.cmdXfrBlock)

/-- A row of the dispatch table that `MSG[0]` selects takes the edge that `MSG[0]` selects. -/
theorem leftBuild_of_runCommand {s t : State} {k : CommandKind} {b : Byte} (hb : s.fstate = .build)
    (hread : s.msg.read 0 = some b) (hk : commandKind b = k) (h : runCommand Config.params k s = .ok t) :
    LeftBuild s t := by
  rcases runCommand_build_cases hb h with ⟨rfl, len, rfl⟩ | ⟨hne, len, msg, rfl⟩
  · exact .inl ⟨rfl, by rw [hread, commandKind_eq_xfrBlock.mp hk]⟩
  · refine .inr ⟨rfl, fun hx => hne ?_⟩
    rw [← hk, commandKind_eq_xfrBlock]
    exact Option.some.inj (hread.symm.trans hx)

/-- A command row that is due takes the edge that `MSG[0]` selects. -/
theorem leftBuild_of_due {s t : State} {k : CommandKind} (hb : s.fstate = .build)
    (hdue : (dueCommand s == some k) = true) (h : runCommand Config.params k s = .ok t) : LeftBuild s t := by
  obtain ⟨b, hread, hk⟩ := dueCommand_eq_some (beq_iff_eq.mp hdue)
  exact leftBuild_of_runCommand hb hread hk h

/-- So does a response row whose type is due: no transfer-block has one before the processor's answer. -/
theorem leftBuild_of_dueResponse {s t : State} {rtype : Byte} {r : CcidResponse} (hb : s.fstate = .build)
    (hdue : ((dueCommand s).bind responseType == some rtype) = true)
    (h : respondRow Config.params rtype r s = .ok t) : LeftBuild s t := by
  obtain ⟨k, hk, htype⟩ := Option.bind_eq_some_iff.mp (beq_iff_eq.mp hdue)
  obtain ⟨b, hread, rfl⟩ := dueCommand_eq_some hk
  rw [respondRow_eq Config.params_legal, if_pos hb] at h
  cases h
  refine .inr ⟨rfl, fun hx => ?_⟩
  rw [commandKind_eq_xfrBlock.mpr (Option.some.inj (hread.symm.trans hx))] at htype
  cases htype

/-- In BUILD an admitted operation that answers the message, or asks the processor, takes the edge that `MSG[0]`
selects. -/
theorem leftBuild_of_effect {i : Instr} {s t : State} (hb : s.fstate = .build) (hadm : admitted i s = true)
    (hi : answersInBuild i = true ∨ ∃ m, i = .xfrBlock m) (h : effect i s = .ok t) (hne : t.fstate ≠ s.fstate) :
    LeftBuild s t := by
  cases i with
  | powerOn | powerOff | getSlotStatus | xfrBlock | getParameters | resetParameters | setParameters | unknown =>
    exact leftBuild_of_due hb hadm h
  | rspDataBlock | rspSlotStatus | rspParameters => exact leftBuild_of_dueResponse hb hadm h
  | dispatch =>
    rcases dispatch_cases h with rfl | ⟨-, b, hread, hrun⟩
    · exact absurd rfl hne
    · exact leftBuild_of_runCommand hb hread rfl hrun
  | _ => exact absurd hi (by simp [answersInBuild])

/-- The processor's answer is no agent's own operation: it comes by a request. -/
theorem Taken.request_of_answer {ts : List Turn} {i : Instr} {u : State} (h : Taken ts i u)
    (hi : isProcessorAnswer i = true) : ts = .request i :: u.sched := by
  rcases h with hfr | hen | ⟨hreq, -⟩
  · rcases framerOp_eq_some hfr with ⟨rfl, -⟩ | ⟨rfl, -⟩ | ⟨rfl, -⟩ <;> cases hi
  · rcases engineOp_eq_some hen with ⟨rfl, -⟩ | ⟨rfl, -⟩ | ⟨rfl, -⟩ <;> cases hi
  · exact hreq

/-- Settles O45: the edges of `Did`, those out of BUILD told apart by `MSG[0]`. -/
theorem framerTransitions : Obligations.FramerTransitions := by
  intro s t h
  by_cases hsame : t.fstate = s.fstate
  · exact .inl hsame
  obtain ⟨-, ts, n, u, rfl, h⟩ := step_cases h
  rcases h with rfl | ⟨i, -, htaken, h⟩ | ⟨off, bs, h⟩ | ⟨off, bs, h⟩
  · exact absurd rfl hsame
  · rcases exec_eq_next.mp h with hok | ⟨f, -, rfl⟩
    · rcases (effect_did hok).fstate_cases with he | hyield | ⟨hb, hi⟩ | ⟨hp, hfl, hi⟩ | hend
      · exact absurd he hsame
      · exact .inr (.inl hyield)
      · rcases leftBuild_of_effect hb htaken.admitted hi hok hsame with ⟨hp, hx⟩ | ⟨hfl, hx⟩
        · exact .inr (.inr (.inl ⟨hb, hp, hx⟩))
        · exact .inr (.inr (.inr (.inl ⟨hb, hfl, hx⟩)))
      · exact .inr (.inr (.inr (.inr (.inl ⟨hp, hfl, i, ts, hi, htaken.request_of_answer hi⟩))))
      · exact .inr (.inr (.inr (.inr (.inr hend))))
    · exact absurd rfl hsame
  · rcases processorWrite_cases h with ⟨f, rfl⟩ | ⟨-, -, rfl⟩ <;> exact absurd rfl hsame
  · rcases callerWrite_cases h with ⟨f, rfl⟩ | ⟨-, -, rfl⟩ <;> exact absurd rfl hsame

/-! ### The reach of the operations -/

section
variable {i : Instr} {s t : State}

theorem Did.rxb_reach (h : Did i s t) : t.rxb = s.rxb ∨ (i = .reassemble ∧ s.fstate = .await) := by
  cases h with
  | readMore _ _ hs _ _ _ hi => exact .inr ⟨hi, hs⟩
  | yield _ _ hs _ _ _ _ _ hi => exact .inr ⟨hi, hs⟩
  | _ => exact .inl (by simp)

theorem Did.msg_reach (h : Did i s t) :
    t.msg = s.msg ∨ (i = .reassemble ∧ s.fstate = .await) ∨ (answersInBuild i = true ∧ s.fstate = .build) ∨
      (isProcessorAnswer i = true ∧ s.fstate = .process) := by
  cases h with
  | answer _ _ _ _ _ _ hs =>
    rcases hs with ⟨hb, ha⟩ | ⟨hp, ha⟩
    · exact .inr (.inr (.inl ⟨ha, hb⟩))
    · exact .inr (.inr (.inr ⟨ha, hp⟩))
  | yield _ _ hs _ _ _ _ _ hi => exact .inr (.inl ⟨hi, hs⟩)
  | _ => exact .inl (by simp)

theorem Did.apdu_reach (h : Did i s t) :
    t.apdu = s.apdu ∨
      (s.t1state ≠ .idle ∧ (i = .t1WriteAttempt ∨ i = .t1RdhdrAttempt ∨ i = .t1RdbodyAttempt)) := by
  cases h with
  | writeFailed _ _ _ hs _ _ hi => exact .inr ⟨by simp [hs], .inl hi⟩
  | readFailed _ _ _ hs _ _ hi =>
    refine .inr ⟨?_, .inr hi⟩
    rcases hs with hs | hs
    · simp [hs]
    · simp [hs]
  | body _ _ hs _ _ _ hi => exact .inr ⟨by simp [hs], .inr (.inr hi)⟩
  | _ => exact .inl (by simp)

theorem Did.txf_reach (h : Did i s t) : t.txf = s.txf ∨ (isStart i = true ∧ s.t1busy = false) := by
  cases h with
  | start _ _ _ _ _ hb hi => exact .inr ⟨hi, hb⟩
  | _ => exact .inl (by simp)

end

/-- Settles O47: one buffer after the other, over everything an operation can do. -/
theorem bufferReach : Obligations.BufferReach := by
  intro i s t h
  rcases exec_cases h with hd | ⟨f, rfl⟩
  · exact ⟨hd.rxb_reach.resolve_left, hd.msg_reach.resolve_left, hd.apdu_reach.resolve_left, hd.txf_reach.resolve_left⟩
  · exact ⟨fun hne => absurd rfl hne, fun hne => absurd rfl hne, fun hne => absurd rfl hne, fun hne => absurd rfl hne⟩

/-! ### Slot and seq -/

/-- The bytes `MSG[5]` (slot) and `MSG[6]` (seq) are as before (R187). -/
def SameSlotSeq (m m' : Memory) : Prop := m'.read 5 = m.read 5 ∧ m'.read 6 = m.read 6

/-- A write to `MSG[10..)` is clear of slot and seq. -/
theorem sameSlotSeq_payload (m : Memory) (off : Nat) (bs : List Byte) : SameSlotSeq m (m.writeN (10 + off) bs) := by
  have h5 : ¬ 10 + off ≤ 5 := by omega
  have h6 : ¬ 10 + off ≤ 6 := by omega
  simp [SameSlotSeq, Memory.read_writeN, bytesAt, h5, h6]

/-- Outside AWAIT an operation leaves slot and seq as they were: the header writer skips them (R172, R187). -/
theorem Did.sameSlotSeq {i : Instr} {s t : State} (h : Did i s t) (hs : s.fstate ≠ .await) :
    SameSlotSeq s.msg t.msg := by
  cases h with
  | answer rtype len status error param m _ hm =>
    obtain ⟨h5, h6⟩ := read_respondedMsg_echo rtype len status error param m
    rcases hm with rfl | rfl
    · exact ⟨h5, h6⟩
    · obtain ⟨h5', h6'⟩ := sameSlotSeq_payload s.msg 0 Config.atrBytes
      exact ⟨h5.trans h5', h6.trans h6'⟩
  | yield _ _ ha => exact absurd ha hs
  | _ => simp [SameSlotSeq]

/-- Settles O39: outside AWAIT only the header writer and writes to the payload reach `MSG`. -/
theorem slotAndSeqAreEchoed : Obligations.SlotAndSeqAreEchoed := fun _ _ h =>
  step_relation (R := fun s t => s.fstate ≠ .await → SameSlotSeq s.msg t.msg) h
    (turn := fun _ _ _ => id)
    (same := fun _ _ => ⟨rfl, rfl⟩)
    (raise := fun _ _ _ => ⟨rfl, rfl⟩)
    (op := fun _ _ _ _ _ _ hd => hd.sameSlotSeq)
    (processor := fun u off bs _ _ _ => sameSlotSeq_payload u.msg off bs)
    (caller := fun _ _ _ _ _ _ => ⟨rfl, rfl⟩)

/-! ### A response over the whole flush -/

/-- From `s` to `t` a chunk was offered and `a` of its bytes accepted (R190). -/
def OffersChunk (s t : State) : Prop :=
  ∃ chunk a rest, a ≤ chunkSize Config.params s ∧ s.msg.readN s.foff (chunkSize Config.params s) = some chunk ∧
    t = s.tookUsbTx rest chunk a

/-- Nothing but an offered chunk adds a USB write to the record (R58, R61). -/
theorem Did.noUsbWriteAdded_of_not_offers {i : Instr} {s t : State} (h : Did i s t) (hn : ¬ OffersChunk s t) :
    NoUsbWriteAdded s t := by
  cases h with
  | chunk cs a rest _ _ _ ha hr => exact absurd ⟨cs, a, rest, ha, hr, rfl⟩ hn
  | crc a ha =>
    obtain ⟨c, rfl⟩ | ⟨c, rfl⟩ := ha
    · exact .of_log_append rfl rfl
    · exact .of_log_append rfl rfl
  | process | reject | wrote | readMore => exact .of_log_append rfl rfl
  | writeFailed => exact .trans (.of_log_append rfl rfl) (noUsbWriteAdded_failedState _ _)
  | readFailed => exact .trans (.of_log_append rfl rfl) (noUsbWriteAdded_failedState _ _)
  | header => exact .trans (.of_log_append rfl rfl) (noUsbWriteAdded_afterHeader _ _)
  | body r rest =>
    exact .trans (.of_log_append (State.tookI2cRd_log s rest _) rfl) (.of_log_append (State.complete_log _ _) rfl)
  | _ => exact .of_log_eq (by simp)

/-- In FLUSH nothing but an offered chunk reaches the response and the flush's registers. -/
theorem Did.flush_frame {i : Instr} {s t : State} (h : Did i s t) (hs : s.fstate = .flush) (hn : ¬ OffersChunk s t) :
    t.msg = s.msg ∧ t.rspLen = s.rspLen ∧ t.foff = s.foff ∧ t.fstate = s.fstate := by
  cases h with
  | chunk cs a rest _ _ _ ha hr => exact absurd ⟨cs, a, rest, ha, hr, rfl⟩ hn
  | answer _ _ _ _ _ _ hor => simp [hs] at hor
  | process _ hb => simp [hs] at hb
  | yield _ _ ha => simp [hs] at ha
  | _ => simp

/-- The flush of the response `rsp` is under way, or has just ended: it stands in `MSG`, its first `FOFF` bytes were
sent after `sent`, and in AWAIT they are all of it. -/
def Sending (sent rsp : List Byte) (s : State) : Prop :=
  s.msg.readN 0 s.rspLen = some rsp ∧ s.foff ≤ s.rspLen ∧ sentBytes s.log = sent ++ rsp.take s.foff ∧
    (s.fstate = .await → s.foff = s.rspLen)

section
variable {sent rsp : List Byte} {s t : State}

/-- Where nothing of the flush is touched the response is sent as far as before. -/
theorem Sending.of_frame (h : Sending sent rsp s) (hlog : sentBytes t.log = sentBytes s.log) (hmsg : t.msg = s.msg)
    (hlen : t.rspLen = s.rspLen) (hoff : t.foff = s.foff) (hst : t.fstate = s.fstate) : Sending sent rsp t := by
  unfold Sending
  rw [hlog, hmsg, hlen, hoff, hst]
  exact h

/-- An accepted chunk is in the record with the bytes that left. -/
theorem sentBytes_tookUsbTx (s : State) (rest : List Nat) (chunk : List Byte) (a : Nat) :
    sentBytes (s.tookUsbTx rest chunk a).log = sentBytes s.log ++ chunk.take a := by
  simp [sentBytes]

/-- A chunk sends the response's next bytes (R190, R192). -/
theorem Sending.offered (h : Sending sent rsp s) (hs : s.fstate = .flush) (ho : OffersChunk s t) :
    Sending sent rsp t := by
  obtain ⟨hrsp, hle, hsent, -⟩ := h
  obtain ⟨chunk, a, rest, ha, hchunk, rfl⟩ := ho
  have hsize : chunkSize Config.params s ≤ s.rspLen - s.foff := Nat.min_le_right _ _
  obtain rfl : (rsp.drop s.foff).take (chunkSize Config.params s) = chunk :=
    Option.some.inj ((Memory.readN_part hrsp (by omega)).symm.trans hchunk)
  refine ⟨hrsp, ?_, ?_, fun hawait => ?_⟩
  · simp only [State.tookUsbTx_foff, State.tookUsbTx_rspLen]
    omega
  · rw [sentBytes_tookUsbTx, hsent, List.take_take, Nat.min_eq_left ha, List.append_assoc, ← List.take_add]
    rfl
  · rw [State.tookUsbTx_fstate] at hawait
    split at hawait
    · assumption
    · simp [hs] at hawait

/-- Every operation without a fault goes on with the flush. -/
theorem Did.sending {i : Instr} (h : Did i s t) (hs : s.fstate = .flush) (hsend : Sending sent rsp s) :
    Sending sent rsp t := by
  by_cases ho : OffersChunk s t
  · exact hsend.offered hs ho
  · obtain ⟨hmsg, hlen, hoff, hst⟩ := h.flush_frame hs ho
    exact hsend.of_frame (h.noUsbWriteAdded_of_not_offers ho).sentBytes_eq hmsg hlen hoff hst

/-- So does every step, whoever moves. -/
theorem step_sending (h : step s = .next t) (hs : s.fstate = .flush) (hsend : Sending sent rsp s) :
    Sending sent rsp t :=
  step_relation (R := fun s t => s.fstate = .flush → Sending sent rsp s → Sending sent rsp t) h
    (turn := fun _ _ _ => id)
    (same := fun _ _ => id)
    (raise := fun _ _ _ => id)
    (op := fun _ _ _ _ _ _ hd => hd.sending)
    (processor := fun u _ _ hp _ hs => by simp [hs] at hp)
    (caller := fun _ _ _ _ _ _ => id) hs hsend

/-- And so does a run that leaves FLUSH with its last step at the earliest. -/
theorem run_sending {n : Nat} (hflush : ∀ k < n, ∀ u, run k s = some u → u.fstate = .flush) (h : run n s = some t)
    (hsend : Sending sent rsp s) : Sending sent rsp t := by
  induction n generalizing s with
  | zero =>
    cases h
    exact hsend
  | succ n ih =>
    rw [run] at h
    split at h
    · rename_i u hu
      refine ih (fun k hk v hv => hflush (k + 1) (by omega) v ?_) h
        (step_sending hu (hflush 0 (by omega) s rfl) hsend)
      rw [run, hu]
      exact hv
    · cases h
    · cases h

end

/-- Settles O44: at the start of the flush nothing of the response was sent, and every step of the run goes on with
it. -/
theorem responseLeavesInOrder : Obligations.ResponseLeavesInOrder := by
  intro n s t rsp hs hoff _ hrsp hflush h
  have hstart : Sending (sentBytes s.log) rsp s := ⟨hrsp, by omega, by simp [hoff], by simp [hs]⟩
  obtain ⟨hrsp', -, hsent, hend⟩ := run_sending hflush h hstart
  refine ⟨hsent, fun hawait => ?_⟩
  rw [hend hawait, ← Memory.readN_length hrsp', Memory.readN_length hrsp]

end Sys2Proof.Machine
end

section
/-! SUPPORT. A started transaction completes (R130): each step of the engine takes one pending I2C answer and leaves
fewer attempts to make. -/

namespace Sys2Proof.Machine

open Sys2Proof.Safety (Inv isStart run retried ended)

/-- The I2C answers for every attempt the transaction can still make are pending: one for each write attempt and one for
each read attempt (R117, R120, R124). -/
def Supplied (s : State) : Prop :=
  match s.t1state with
  | .idle => True
  | .write => Config.params.nAttempts + 1 - s.attempt ≤ s.i2cWr.length ∧ 2 * Config.params.nAttempts ≤ s.i2cRd.length
  | .rdhdr | .rdbody => attemptsLeft s ≤ s.i2cRd.length

/-- From `s` to `t` the engine came nearer to its end, the answers it may still need are pending, and the schedule is as
before. -/
def Progress (s t : State) : Prop := attemptsLeft t < attemptsLeft s ∧ Supplied t ∧ t.sched = s.sched

/-! ### One attempt -/

section
variable {s : State}

/-- A running phase has an attempt left to make (R31). -/
theorem attemptsLeft_pos (hinv : Inv s) (hs : s.t1state ≠ .idle) : 0 < attemptsLeft s := by
  have := (hinv.attempt_range hs).2
  unfold attemptsLeft
  split
  · contradiction
  all_goals omega

/-- In the state `u`, which took an answer of `s` for its attempt, the failure of the attempt is progress: a retry has
one attempt less, and the last failure is the end (R118). -/
theorem progress_failedState {u : State} (hinv : Inv s) (hs : s.t1state ≠ .idle) (hst : u.t1state = s.t1state)
    (hat : u.attempt = s.attempt) (hsched : u.sched = s.sched) (hsup : Supplied u.nextAttempt) :
    Progress s (failedState Config.params u) := by
  by_cases hlt : u.attempt < Config.params.nAttempts
  · rw [failedState, if_pos hlt]
    refine ⟨?_, hsup, hsched⟩
    have hone := (hinv.attempt_range hs).1
    simp only [attemptsLeft, State.nextAttempt_t1state, State.nextAttempt_attempt, hst, hat]
    split
    · contradiction
    all_goals omega
  · rw [failedState, if_neg hlt]
    exact ⟨attemptsLeft_pos hinv hs, trivial, hsched⟩

/-- A write attempt with an answer pending makes progress (R117). -/
theorem writeAttempt_progress (hinv : Inv s) (hs : s.t1state = .write) (hsup : Supplied s) :
    ∃ t, effect .t1WriteAttempt s = .ok t ∧ Progress s t := by
  have hne : s.t1state ≠ .idle := by simp [hs]
  obtain ⟨hone, hmax⟩ := hinv.attempt_range hne
  simp only [Supplied, hs] at hsup
  obtain ⟨hwr, hrd⟩ := hsup
  obtain ⟨f, hf⟩ := exists_frame hinv hne
  match hu : s.i2cWr with
  | [] => simp only [hu, List.length_nil] at hwr; omega
  | st :: rest =>
    simp only [hu, List.length_cons] at hwr
    by_cases hst : st = 0
    · subst hst
      refine ⟨_, writeAttempt_success Config.params_legal hs hf hu, ?_, ?_, rfl⟩
      · simp only [attemptsLeft, hs, State.enterPhase_t1state, State.enterPhase_attempt]
        omega
      · simp only [Supplied, attemptsLeft, State.enterPhase_t1state, State.enterPhase_attempt,
          State.enterPhase_i2cRd, State.tookI2cWr_i2cRd]
        omega
    · refine ⟨_, writeAttempt_failure Config.params_legal hs hf hu hst,
        progress_failedState hinv hne rfl rfl rfl ?_⟩
      simp only [Supplied, State.nextAttempt_t1state, State.tookI2cWr_t1state, hs, State.nextAttempt_attempt,
        State.tookI2cWr_attempt, State.nextAttempt_i2cWr, State.tookI2cWr_i2cWr, State.nextAttempt_i2cRd,
        State.tookI2cWr_i2cRd]
      omega

/-- After a whole header the transaction ends or its body phase begins; both are progress (R120). -/
theorem progress_afterHeader {u : State} (hinv : Inv s) (hs : s.t1state = .rdhdr) (hsched : u.sched = s.sched)
    (hrd : Config.params.nAttempts ≤ u.i2cRd.length) : Progress s (afterHeader Config.params u) := by
  have hne : s.t1state ≠ .idle := by simp [hs]
  have hmax := (hinv.attempt_range hne).2
  unfold afterHeader
  split
  · exact ⟨attemptsLeft_pos hinv hne, trivial, hsched⟩
  · split
    · exact ⟨attemptsLeft_pos hinv hne, trivial, hsched⟩
    · refine ⟨?_, ?_, hsched⟩
      · simp only [attemptsLeft, hs, State.enterPhase_t1state, State.enterPhase_attempt]
        omega
      · simpa [Supplied, attemptsLeft] using hrd

/-- A failed read attempt is progress, in either read phase (R118). -/
theorem progress_readFailed {rest : List (List Byte)} (a : PortAct) (hinv : Inv s)
    (hs : s.t1state = .rdhdr ∨ s.t1state = .rdbody) (hsup : attemptsLeft s ≤ rest.length + 1) :
    Progress s (failedState Config.params (s.tookI2cRd rest a)) := by
  have hne : s.t1state ≠ .idle := by rcases hs with hs | hs <;> simp [hs]
  have hmax := (hinv.attempt_range hne).2
  refine progress_failedState hinv hne rfl rfl rfl ?_
  rcases hs with hs | hs
  all_goals
    simp only [attemptsLeft, hs] at hsup
    simp only [Supplied, attemptsLeft, State.nextAttempt_t1state, State.tookI2cRd_t1state, hs,
      State.nextAttempt_attempt, State.tookI2cRd_attempt, State.nextAttempt_i2cRd, State.tookI2cRd_i2cRd]
    omega

/-- A header attempt with an answer pending makes progress or finds a breach of contract (R120, R206). -/
theorem rdhdrAttempt_progress (hinv : Inv s) (hs : s.t1state = .rdhdr) (hsup : Supplied s) :
    (∃ t, effect .t1RdhdrAttempt s = .ok t ∧ Progress s t) ∨
      effect .t1RdhdrAttempt s = .error (.portContract .i2c) := by
  have hne : s.t1state ≠ .idle := by simp [hs]
  have hpos := attemptsLeft_pos hinv hne
  simp only [Supplied, hs] at hsup
  match hu : s.i2cRd with
  | [] => simp only [hu, List.length_nil] at hsup; omega
  | r :: rest =>
    simp only [hu, List.length_cons] at hsup
    rcases Nat.lt_trichotomy r.length 4 with hlt | heq | hgt
    · exact .inl ⟨_, rdhdrAttempt_short Config.params_legal hs hu hlt, progress_readFailed _ hinv (.inl hs) hsup⟩
    · match r, heq with
      | [nad, pcb, hi, lo], _ =>
        refine .inl ⟨_, rdhdrAttempt_header Config.params_legal hs hu, progress_afterHeader hinv hs rfl ?_⟩
        have hmax := (hinv.attempt_range hne).2
        simp only [attemptsLeft, hs] at hsup
        simp only [State.setHeader_i2cRd, State.tookI2cRd_i2cRd]
        omega
    · exact .inr (rdhdrAttempt_breach Config.params_legal hs hu hgt)

/-- A body attempt with an answer pending makes progress or finds a breach of contract (R124, R206). -/
theorem rdbodyAttempt_progress (hinv : Inv s) (hs : s.t1state = .rdbody) (hsup : Supplied s) :
    (∃ t, effect .t1RdbodyAttempt s = .ok t ∧ Progress s t) ∨
      effect .t1RdbodyAttempt s = .error (.portContract .i2c) := by
  have hne : s.t1state ≠ .idle := by simp [hs]
  have hpos := attemptsLeft_pos hinv hne
  have hfit := (hinv.body_fits hs).2
  simp only [Supplied, hs] at hsup
  match hu : s.i2cRd with
  | [] => simp only [hu, List.length_nil] at hsup; omega
  | r :: rest =>
    simp only [hu, List.length_cons] at hsup
    rcases Nat.lt_trichotomy r.length (bodySize s) with hlt | heq | hgt
    · exact .inl ⟨_, rdbodyAttempt_short Config.params_legal hs hfit hu hlt,
        progress_readFailed _ hinv (.inr hs) hsup⟩
    · exact .inl ⟨_, rdbodyAttempt_body Config.params_legal hs hfit hu heq, hpos, trivial, rfl⟩
    · exact .inr (rdbodyAttempt_breach hs hu hgt)

/-- The engine's own operation in a running phase with its answers pending. -/
theorem engineOp_progress (hinv : Inv s) (hs : s.t1state ≠ .idle) (hsup : Supplied s) :
    ∃ i, engineOp s = some i ∧ i.wf Config.params = true ∧
      ((∃ t, effect i s = .ok t ∧ Progress s t) ∨ effect i s = .error (.portContract .i2c)) := by
  cases hph : s.t1state with
  | idle => exact absurd hph hs
  | write => exact ⟨.t1WriteAttempt, by rw [engineOp, hph], rfl, .inl (writeAttempt_progress hinv hph hsup)⟩
  | rdhdr => exact ⟨.t1RdhdrAttempt, by rw [engineOp, hph], rfl, rdhdrAttempt_progress hinv hph hsup⟩
  | rdbody => exact ⟨.t1RdbodyAttempt, by rw [engineOp, hph], rfl, rdbodyAttempt_progress hinv hph hsup⟩

/-! ### The whole transaction -/

/-- A turn of the engine in a running phase with its answers pending: progress, in a state with the invariant and no
fault, or the breach of contract. -/
theorem step_engine_progress {ts : List Turn} (hinv : Inv s) (hf : s.fault = none) (hs : s.t1state ≠ .idle)
    (hsup : Supplied s) (hsched : s.sched = .engine :: ts) :
    ∃ t, step s = .next t ∧
      ((Inv t ∧ t.fault = none ∧ attemptsLeft t < attemptsLeft s ∧ Supplied t ∧ t.sched = ts) ∨
        t.fault = some (.portContract .i2c)) := by
  have hinv' : Inv (s.withSched ts) := (inv_turn ts s.choices).mpr hinv
  obtain ⟨i, hi, hw, heffect⟩ := engineOp_progress (s := s.withSched ts) hinv' hs hsup
  have hstep : step s = exec i (s.withSched ts) := by
    rw [step_scheduled hf hsched, runTurn, hi]
    rfl
  rcases heffect with ⟨t, ht, hless, hsup', hts⟩ | herr
  · have hdid := effect_did ht
    exact ⟨t, hstep.trans (exec_eq_next_of_effect ht),
      .inl ⟨hdid.inv (fun _ => hw) hinv', hdid.fault_eq.trans hf, hless, hsup', hts⟩⟩
  · refine ⟨_, hstep.trans (exec_eq_raise_of_effect herr), .inr ?_⟩
    rw [State.raise_of_none (s := s.withSched ts) hf]

/-- With as many turns of the engine as it has attempts left, and the answers for them, the transaction ends, or an
answer breaks the contract. -/
theorem engine_completes {n : Nat} {ts : List Turn} (hinv : Inv s) (hf : s.fault = none) (hleft : attemptsLeft s ≤ n)
    (hsched : s.sched = List.replicate n .engine ++ ts) (hsup : Supplied s) :
    ∃ k u, k ≤ n ∧ run k s = some u ∧
      ((u.t1busy = false ∧ u.t1state = .idle ∧ u.fault = none) ∨ u.fault = some (.portContract .i2c)) := by
  induction n generalizing s with
  | zero =>
    have hidle : s.t1state = .idle := Classical.byContradiction fun hne => by
      have := attemptsLeft_pos hinv hne
      omega
    have hbusy : s.t1busy = false := by simpa [hidle] using hinv.busy_iff
    exact ⟨0, s, Nat.le_refl 0, rfl, .inl ⟨hbusy, hidle, hf⟩⟩
  | succ n ih =>
    by_cases hidle : s.t1state = .idle
    · have hbusy : s.t1busy = false := by simpa [hidle] using hinv.busy_iff
      exact ⟨0, s, Nat.zero_le _, rfl, .inl ⟨hbusy, hidle, hf⟩⟩
    · obtain ⟨t, ht, ⟨hinv', hf', hless, hsup', hsched'⟩ | hbreach⟩ :=
        step_engine_progress hinv hf hidle hsup hsched
      · obtain ⟨k, u, hk, hrun, hend⟩ := ih hinv' hf' (by omega) hsched' hsup'
        exact ⟨k + 1, u, by omega, by rw [run, ht]; exact hrun, hend⟩
      · exact ⟨1, t, by omega, by rw [run, ht]; rfl, .inr hbreach⟩

/-- A transaction has at most `3·N_ATTEMPTS` attempts (R130). -/
theorem attemptsLeft_le (hinv : Inv s) : attemptsLeft s ≤ 3 * Config.params.nAttempts := by
  by_cases hidle : s.t1state = .idle
  · simp [attemptsLeft, hidle]
  · have hone := (hinv.attempt_range hidle).1
    unfold attemptsLeft
    split <;> omega

/-- `N_ATTEMPTS` answers to writes and twice as many to reads are enough for any state of the engine. -/
theorem supplied_of_length (hinv : Inv s) (hwr : Config.params.nAttempts ≤ s.i2cWr.length)
    (hrd : 2 * Config.params.nAttempts ≤ s.i2cRd.length) : Supplied s := by
  by_cases hidle : s.t1state = .idle
  · simp [Supplied, hidle]
  · have hone := (hinv.attempt_range hidle).1
    unfold Supplied
    split
    · trivial
    · omega
    · rename_i hs
      simp only [attemptsLeft, hs]
      omega
    · rename_i hs
      simp only [attemptsLeft, hs]
      omega

end

/-- Settles O25: the start leaves a state with the invariant, from which the engine completes. -/
theorem transactionCompletes : Obligations.TransactionCompletes := by
  intro i s t ts hinv hi hf h ht hsched hwr hrd
  rcases exec_cases h with hd | ⟨f, rfl⟩
  · have hinv' : Inv t := hd.inv (fun hn => by simp [hi] at hn) hinv
    exact engine_completes hinv' ht (attemptsLeft_le hinv') hsched (supplied_of_length hinv' hwr hrd)
  · exact absurd ht (s.raise_fault_ne_none f)

end Sys2Proof.Machine
end

section
/-! SUPPORT. A message's bytes over any split into reads (R159): the buffered bytes are the message's first ones until
its last read, and then the message is yielded. -/

namespace Sys2Proof.Machine

open Sys2Proof.Safety (execAll)

/-! ### Operations one after the other -/

theorem execAll_append (is js : List Instr) (s : State) :
    execAll (is ++ js) s = (execAll is s).bind (execAll js) := by
  induction is generalizing s with
  | nil => rfl
  | cons i is ih =>
    obtain ⟨t, ht⟩ := exec_isNext i s
    simp only [List.cons_append, execAll, ht, ih]

/-! ### Bytes appended to a buffer -/

/-- Bytes appended behind those that can be read. -/
theorem Memory.readN_writeN_append {m : Memory} {pre : List Byte} (h : m.readN 0 pre.length = some pre)
    (c : List Byte) : (m.writeN pre.length c).readN 0 (pre ++ c).length = some (pre ++ c) := by
  refine Memory.readN_eq_some.mpr ⟨rfl, fun k hk => ?_⟩
  rw [Nat.zero_add, Memory.read_writeN, Safety.bytesAt]
  by_cases hold : k < pre.length
  · have hread : m.read k = pre[k]? := by simpa using Memory.readN_read h hold
    simp [hold, Nat.not_le.mpr hold, hread]
  · have hnew : k - pre.length < c.length := by
      rw [List.length_append] at hk
      omega
    simp [Nat.not_lt.mp hold, hnew, List.getElem_append_right]

/-! ### A message on its way -/

/-- The bytes `pre` of a message are buffered in AWAIT and nothing was yielded: `MSG` is still `msg`. -/
structure Buffering (pre : List Byte) (pending : List (List Byte)) (msg : Memory) (s : State) : Prop where
  await : s.fstate = .await
  fault : s.fault = none
  msg_eq : s.msg = msg
  usbRx : s.usbRx = pending
  fill : s.fill = pre.length
  bytes : s.rxb.readN 0 pre.length = some pre

/-- `bs` is one whole legal message: its header declares exactly the bytes that follow it (R71, R73, R74). -/
def IsMessage (bs : List Byte) (l0 l1 l2 l3 : Byte) : Prop :=
  (bs.drop 1).take 4 = [l0, l1, l2, l3] ∧ (le32 l0 l1 l2 l3).toNat ≤ 1024 ∧
    bs.length = 10 + (le32 l0 l1 l2 l3).toNat

section
variable {bs pre c : List Byte} {l0 l1 l2 l3 : Byte} {rest : List (List Byte)} {msg : Memory} {s : State}

/-- While the message is not complete, REASSEMBLE appends the next read (R151, R152). -/
theorem Buffering.read (h : Buffering pre (c :: rest) msg s) (hbs : IsMessage bs l0 l1 l2 l3) (hc : c ≠ [])
    {more : List Byte} (hpre : bs = pre ++ (c ++ more)) :
    ∃ u, exec .reassemble s = .next u ∧ Buffering (pre ++ c) rest msg u := by
  obtain ⟨hfield, hmax, hlen⟩ := hbs
  have hpos := List.length_pos_iff.mpr hc
  have hsum : pre.length + (c.length + more.length) = 10 + (le32 l0 l1 l2 l3).toNat := by
    rw [← hlen, hpre, List.length_append, List.length_append]
  have hread : reassemble Config.params s = readMore Config.params s := by
    by_cases hshort : s.fill < 10
    · exact reassemble_short h.await hshort
    · have hfill := h.fill
      have hheader : (pre.drop 1).take 4 = [l0, l1, l2, l3] := by
        rw [← hfield, hpre, List.drop_append_of_le_length (by omega),
          List.take_append_of_le_length (by rw [List.length_drop]; omega)]
      refine reassemble_incomplete Config.params_legal h.await ?_ hmax (by omega)
      rw [← hheader]
      exact Memory.readN_part h.bytes (by omega)
  have hfree : c.length ≤ freeSpace Config.params s := by
    have hcap := Config.params_legal.rxCap
    rw [freeSpace, h.fill]
    omega
  refine ⟨_, exec_eq_next_of_effect (i := .reassemble) (hread.trans (readMore_append h.usbRx hpos hfree)), ?_⟩
  exact {
    await := h.await
    fault := h.fault
    msg_eq := h.msg_eq
    usbRx := rfl
    fill := by rw [State.tookUsbRx_fill, State.setBuf_fill, h.fill, List.length_append]
    bytes := by
      rw [State.tookUsbRx_rxb, State.setBuf_rxb_rxb, h.fill]
      exact Memory.readN_writeN_append h.bytes c }

/-- After `k` of the reads their bytes are buffered and nothing was yielded. -/
theorem Buffering.reads {chunks : List (List Byte)} (h : Buffering pre (chunks ++ rest) msg s)
    (hbs : IsMessage bs l0 l1 l2 l3) (hne : ∀ c ∈ chunks, c ≠ []) (hpre : bs = pre ++ chunks.flatten) {k : Nat}
    (hk : k ≤ chunks.length) :
    ∃ u, execAll (List.replicate k .reassemble) s = some u ∧
      Buffering (pre ++ (chunks.take k).flatten) (chunks.drop k ++ rest) msg u := by
  induction chunks generalizing pre s k with
  | nil =>
    obtain rfl : k = 0 := Nat.le_zero.mp hk
    exact ⟨s, rfl, by simpa using h⟩
  | cons c cs ih =>
    cases k with
    | zero => exact ⟨s, rfl, by simpa using h⟩
    | succ k =>
      rw [List.flatten_cons] at hpre
      obtain ⟨u, hu, hbuf⟩ := Buffering.read (rest := cs ++ rest) h hbs (hne c List.mem_cons_self) hpre
      obtain ⟨v, hv, hbuf'⟩ := ih hbuf (fun d hd => hne d (List.mem_cons_of_mem c hd))
        (by rw [hpre, List.append_assoc]) (Nat.le_of_succ_le_succ hk)
      refine ⟨v, ?_, by simpa using hbuf'⟩
      rw [List.replicate_succ, execAll, hu]
      exact hv

/-- A complete message is yielded whole: `MSG` holds it and nothing is left in `RXB` (R155, R157). -/
theorem Buffering.yield (h : Buffering bs rest msg s) (hbs : IsMessage bs l0 l1 l2 l3) :
    exec .reassemble s = .next (yieldedState s bs []) := by
  obtain ⟨hfield, hmax, hlen⟩ := hbs
  have hcap := Config.params_legal.rxCap
  have hl : s.rxb.readN 1 4 = some [l0, l1, l2, l3] := by
    rw [← hfield]
    exact Memory.readN_part h.bytes (by omega)
  have hbytes : s.rxb.readN 0 s.fill = some bs := by rw [h.fill]; exact h.bytes
  have hfill := h.fill
  have hyield := (reassemble_complete Config.params_legal h.await hl hmax (by omega)).trans
    (yieldMessage_eq Config.params_legal hbytes (by omega) (by omega) (by omega))
  rw [← hlen, List.take_length, List.drop_length] at hyield
  exact exec_eq_next_of_effect (i := .reassemble) hyield

end

/-- Settles O29: the reads buffer the message piece by piece, and the operation after the last of them yields it. -/
theorem chunkSizeIndependence : Obligations.ChunkSizeIndependence := by
  intro s chunks rest t l0 l1 l2 l3 tail hawait hfill hf hne hflat hmax hlen hu
  have hbs : IsMessage chunks.flatten l0 l1 l2 l3 := ⟨by rw [hflat]; rfl, hmax, hlen⟩
  have hstart : Buffering [] (chunks ++ rest) s.msg s := ⟨hawait, hf, rfl, hu, hfill, rfl⟩
  have hreads : ∀ k ≤ chunks.length, _ := fun k hk => hstart.reads hbs hne (List.nil_append _).symm hk
  refine ⟨fun k hk => ?_, ?_⟩
  · obtain ⟨u, hrun, hbuf⟩ := hreads k hk
    exact ⟨u, hrun, hbuf.await, hbuf.fault, hbuf.msg_eq⟩
  · obtain ⟨u, hrun, hbuf⟩ := hreads chunks.length (Nat.le_refl _)
    rw [List.take_length, List.drop_length, List.nil_append, List.nil_append] at hbuf
    refine ⟨yieldedState u chunks.flatten [], ?_, rfl, ?_, hbuf.fault, hbuf.usbRx, Memory.readN_writeN_same _ _ _⟩
    · rw [List.replicate_succ', execAll_append, hrun, Option.bind_some, execAll, hbuf.yield hbs]
      rfl
    · simp [yieldedState, hbuf.fill]

end Sys2Proof.Machine
end
